-- ==== Sys2Proof/Word.lean ====
section
/-!
DEFINITION. The byte, the only word of the block (spec/00_scope.md R14). Lengths and indices are
natural numbers: "Lengths and indices are mathematical integers: they never wrap" (R14).
-/

namespace Sys2Proof

/-- A byte: an unsigned 8-bit value (R14). -/
abbrev Byte := BitVec 8

end Sys2Proof
end

