-- ==== Sys2Proof/Machine/Constants.lean ====
section
/-!
DEFINITION. The block's fixed constants (spec/00_scope.md R6, R8, R9; spec/10_state.md R29), which no
build of it changes.
-/

namespace Sys2Proof.Machine

/-- `HEADER`, the fixed first byte of every packet (R6). -/
def header : Byte := 0xD5

/-- `MIN_PACKET`, the smallest packet length DECODE accepts (R8). -/
def minPacket : Nat := 4

/-- `CRC_INIT` (R9). -/
def crcInit : Byte := 0x00

end Sys2Proof.Machine
end

