-- ==== Sys2Proof/Config.lean ====
section
/-!
DEFINITION. What is fixed when the block is built: its parameters (spec/00_scope.md R7, R11, R12;
spec/10_state.md R29), the host's parameters (R13), and the free values that stand for what the spec
leaves unspecified (spec/93_implementation_defined.md U5, U15). The block's fixed constants are in
Machine/Constants.lean.
-/

namespace Sys2Proof

/-- R11: what the stream decoder does with a length byte of 0. -/
inductive ZeroLengthStream where
  | accept
  | fault
  deriving DecidableEq, Repr

/-- The block's parameters. The machine state carries them, so that every statement over all states
covers every choice of them; no operation changes them (R29, log entry 4). -/
structure Config where
  /-- `MAX_PAYLOAD`, any value from 0 to 255 (R7). -/
  maxPayload : Fin 256
  /-- `ZERO_LENGTH_STREAM` (R11). -/
  zeroLengthStream : ZeroLengthStream
  /-- `MAX_BULK_INPUT`; `none` is the spec's "unbounded" (R12). -/
  maxBulkInput : Option Nat
  deriving DecidableEq, Repr

/-- The defaults of R29: 32, `accept`, unbounded. -/
def Config.default : Config :=
  { maxPayload := 32, zeroLengthStream := .accept, maxBulkInput := none }

/-- FREE VALUE (log entry 5). The content of buffer entry `index` after the SD_NEW numbered `draw`:
"unspecified, never read before written" (R140, R34; U5: any value). It has no body, so nothing can
be proved of it. -/
opaque Config.freeBufByte (draw index : Nat) : Byte

/-- FREE VALUE (log entry 15). `BASE_ADDR`, an OPEN platform parameter; "No rule of this spec depends on
it" (R48), and nothing in the model reads it. -/
opaque Config.baseAddr : Nat

/-- `IO_FAILURE_POLICY` (spec/92_eei_decisions.md D34): an OPEN parameter of the host. -/
inductive IoFailurePolicy where
  | propagate
  | retry
  deriving DecidableEq, Repr

/-- The host's constants (R13, D20, D21, D34). No rule of the block reads them. The two OPEN ones have
no default: whoever builds a host names them. -/
structure HostConfig where
  /-- `MAX_RETRY`: attempts per SendCommand. -/
  maxRetry : Nat := 5
  /-- `TIMEOUT` per attempt in milliseconds: 0.5 s (log entry 16 on the unit). -/
  timeout : Nat := 500
  /-- `QEP_OPCODE`, OPEN (D20). -/
  qepOpcode : Byte
  /-- OPEN (D34). -/
  ioFailurePolicy : IoFailurePolicy
  deriving DecidableEq, Repr

end Sys2Proof
end

