-- ==== Sys2Proof/Syntax.lean ====
section
/-!
DEFINITION. The six operations of the block, one constructor per row of spec/opcode_table.json
(spec/00_scope.md R17), each with the operand shape of spec/30_encoding.md R71.
-/

namespace Sys2Proof

inductive Instr where
  /-- CHECKSUM (R104): any byte sequence. -/
  | checksum (data : List Byte)
  /-- ENCODE (R120): any byte sequence, the payload. -/
  | encode (payload : List Byte)
  /-- DECODE (R125): any byte sequence, the packet. -/
  | decode (packet : List Byte)
  /-- SD_NEW (R140): no operand. -/
  | sdNew
  /-- SD_RECV (R142): exactly one byte. -/
  | sdRecv (b : Byte)
  /-- SD_RESULT (R152): no operand. -/
  | sdResult
  deriving DecidableEq, Repr

end Sys2Proof
end

