-- ==== Sys2Proof/Decode.lean ====
section
/-!
DEFINITION. Requests, their decoder and their encoder (spec/30_encoding.md R70, R71, R75, R77). The
decoder is total on any selector and any operand, and names the reason for each rejection.
-/

namespace Sys2Proof

/-- R70: a request is a selector byte and an operand, "a byte sequence whose length travels with the
request, outside the byte sequence itself". -/
structure Request where
  sel : Byte
  operand : List Byte
  deriving DecidableEq, Repr

/-- The three cases of R75 in which a request is refused. -/
inductive DecodeError where
  /-- `sel[7:3] != 0`. -/
  | selectorHighBits
  /-- The selector is 0x06 or 0x07. -/
  | reservedSelector
  /-- The operand does not have the shape R71 gives. -/
  | operandShape
  deriving DecidableEq, Repr

/-- Operands of SD_NEW and SD_RESULT are empty (R71). -/
def emptyOperand (i : Instr) : List Byte → Except DecodeError Instr
  | [] => .ok i
  | _ :: _ => .error .operandShape

/-- The operand of SD_RECV is exactly one byte (R71). -/
def oneByteOperand : List Byte → Except DecodeError Instr
  | [b] => .ok (.sdRecv b)
  | _ => .error .operandShape

/-- R71: `sel[7:3]` must be 00000 and `sel[2:0]` selects the operation; R75 names the rest. -/
def decodeRequest (r : Request) : Except DecodeError Instr :=
  if r.sel.extractLsb' 3 5 ≠ 0 then .error .selectorHighBits
  else
    match (r.sel.extractLsb' 0 3).toNat with
    | 0 => .ok (.checksum r.operand)
    | 1 => .ok (.encode r.operand)
    | 2 => .ok (.decode r.operand)
    | 3 => emptyOperand .sdNew r.operand
    | 4 => oneByteOperand r.operand
    | 5 => emptyOperand .sdResult r.operand
    | _ => .error .reservedSelector

/-- The request of each operation, from the selector table of R71 (and R78's "request" column). -/
def encodeRequest : Instr → Request
  | .checksum data => { sel := 0x00, operand := data }
  | .encode payload => { sel := 0x01, operand := payload }
  | .decode packet => { sel := 0x02, operand := packet }
  | .sdNew => { sel := 0x03, operand := [] }
  | .sdRecv b => { sel := 0x04, operand := [b] }
  | .sdResult => { sel := 0x05, operand := [] }

/-- The operand bytes that a table word of `nbits` bits holds above its selector byte. -/
def tableOperand (nbits w : Nat) : List Byte :=
  (List.range (nbits / 8 - 1)).map fun k => BitVec.ofNat 8 (w / 256 ^ (k + 1))

/-- The request whose bits are `w` (log entry 9): the selector is the first byte, the operand the bytes
after it, and the operand byte of SD_RECV that the table gives no bits is the byte 0. -/
def tableRequest (nbits w : Nat) : Request :=
  let sel : Byte := BitVec.ofNat 8 w
  let operand := tableOperand nbits w
  { sel, operand := if sel = 0x04 ∧ operand = [] then [0x00] else operand }

/-- What the decoder reads from the table word `w` of `nbits` bits. -/
def decodeTableWord (nbits w : Nat) : Option Instr :=
  match decodeRequest (tableRequest nbits w) with
  | .ok i => some i
  | .error _ => none

end Sys2Proof
end

