-- ==== Sys2Proof/Machine/State.lean ====
section
/-!
DEFINITION. The machine's state: everything spec/10_state.md gives the block (R20 to R24, R29, R34,
R35), the requests its host has issued and not yet seen accepted, and the responses given so far
(spec/30_encoding.md R70, spec/70_reset_and_hazards.md R268). The block has no memory, no program
counter, no flags and no numbered register (R26 to R32).
-/

namespace Sys2Proof.Machine

/-- R21: the state tag `sd.state`, exactly these five values. -/
inductive StateTag where
  | waitForHeader
  | waitForLength
  | waitForData
  | waitForCrc
  | payloadReady
  deriving DecidableEq, Repr

/-- R72: the statuses a response can carry. Codes 5 to 7 are never produced (U10). -/
inductive Status where
  | ok
  | lengthError
  | headerError
  | lengthFieldError
  | crcError
  deriving DecidableEq, Repr

/-- The model faults: the three of R205, and the one of spec/93_implementation_defined.md U4. -/
inductive ModelFault where
  /-- SD_RECV in `PAYLOAD_READY` (R150). -/
  | undefinedFeed
  /-- SD_RESULT outside `PAYLOAD_READY` (R152). -/
  | resultNotReady
  /-- SD_RECV of length byte 0 when `ZERO_LENGTH_STREAM` is `fault` (R146). -/
  | zeroLengthStream
  /-- SD_RECV in `WAIT_FOR_DATA` when `sd.explen` is unwritten: "reading it would be `fault`" (U4), where
  `fault` is "a model fault is recorded and never cleared". No run from reset raises it (R25, log entry 7). -/
  | explenUnwritten
  deriving DecidableEq, Repr

/-- R70: a response, a status, a state tag or `none`, and a result. -/
structure Response where
  status : Status
  state : Option StateTag
  result : List Byte
  deriving DecidableEq, Repr

/-- The four registers of the stream decoder (R20). -/
structure StreamDecoder where
  /-- `sd.state` (R21). -/
  state : StateTag
  /-- `sd.explen` (R22), 8 bits; `none` is the spec's own state "unwritten: it holds no value", which
  reset and SD_NEW put it in (R34, R140; log entry 7). -/
  explen : Option Byte
  /-- `sd.buf` (R23), `MAX_PAYLOAD` bytes. -/
  buf : List Byte
  /-- `sd.count` (R24), an integer 0..`MAX_PAYLOAD`. -/
  count : Nat
  deriving DecidableEq, Repr

/-- Why the machine stops: it never does, so there is no reason and this type is empty. The spec's model
faults are no stops: they are recorded and the run goes on (R205, log entry 3). -/
inductive Fault where
  deriving DecidableEq, Repr

/-- Why the machine gives an instruction no meaning. The spec's refusals are no stops: they set the
refusal mark and the run goes on (R206, log entry 3). -/
inductive Refusal where
  /-- Raised by `exec` for an instruction that has no meaning yet; at present by none. SAFE. -/
  | notModelled (mnemonic : String)
  deriving DecidableEq, Repr

/-- The whole machine. -/
structure State where
  /-- The block's parameters (R29): part of the state table of R34, changed by no operation. -/
  config : Config
  /-- The stream decoder's registers (R20). -/
  sd : StreamDecoder
  /-- The fault record, oldest first (R35). -/
  faultRecord : List ModelFault
  /-- The refusal mark (R35). -/
  refusalMark : Bool
  /-- The requests issued and not yet accepted, next first (R47, log entry 1). -/
  requests : List Request
  /-- The responses given, oldest first (R268, log entry 2). -/
  responses : List Response
  /-- THE MODEL'S OWN FIELD: how many unspecified buffer fills have happened, the number a free value is
  drawn under (log entry 5). -/
  draws : Nat
  deriving DecidableEq, Repr

/-- R34, R250: the registers at power-on. The buffer's contents are unspecified; the model names 0x00
(log entry 6). -/
def StreamDecoder.reset (cfg : Config) : StreamDecoder :=
  { state := .waitForHeader, explen := none, buf := List.replicate cfg.maxPayload.val 0x00, count := 0 }

/-- R250, R251: power-on with the parameters `cfg`. -/
def State.resetWith (cfg : Config) : State :=
  { config := cfg, sd := StreamDecoder.reset cfg, faultRecord := [], refusalMark := false,
    requests := [], responses := [], draws := 0 }

/-- R250, R251 at the default parameters of R29. -/
def State.reset : State := State.resetWith Config.default

end Sys2Proof.Machine
end

