-- ==== Sys2Proof/Machine/Ops.lean ====
section
/-!
DEFINITION. The named operations over the state: the ways an operation ends (spec/00_scope.md R15:
`return`, `raise`, `fault`, `refuse`), acceptance of a request (R47), and the payload buffer (R23).

The block takes no exceptions: "The block has no trap entry, vector, saved-state register,
return-from-trap operation or nesting" (spec/60_exceptions.md R209). What it has instead is an error
status in a response (R207), a recorded model fault (R205) and a refusal mark (R206); each is ONE
shared operation here, and each leaves a next state.
-/

namespace Sys2Proof.Machine

/-- Put the stream decoder's registers to `d`. -/
def State.setSd (s : State) (d : StreamDecoder) : State := { s with sd := d }

/-- R15 `return` and `raise`: the request produces one response (R70). -/
def State.respond (s : State) (st : Status) (tag : Option StateTag) (result : List Byte) : State :=
  { s with responses := s.responses ++ [{ status := st, state := tag, result := result }] }

/-- R15 `fault`, R205: no register changes, no response, and the fault is added to the record. -/
def State.recordFault (s : State) (f : ModelFault) : State :=
  { s with faultRecord := s.faultRecord ++ [f] }

/-- R15 `refuse`, R206: no register changes, no response, and the refusal mark is set. -/
def State.refuse (s : State) : State := { s with refusalMark := true }

/-- Put the pending requests to `rs`: what accepting the next request leaves (R47). -/
def State.setRequests (s : State) (rs : List Request) : State := { s with requests := rs }

/-- Number the next unspecified buffer fill (log entry 5). -/
def State.nextDraw (s : State) : State := { s with draws := s.draws + 1 }

/-- `n` buffer entries of unspecified contents (R23, U5): free values. -/
def freeBuf (draw n : Nat) : List Byte := (List.range n).map (Config.freeBufByte draw)

/-- R15 `BufWrite(i, v)`. The index is inside the buffer in every state a run reaches (R147, R25); outside
it nothing is written (log entry 10). -/
def StreamDecoder.bufWrite (d : StreamDecoder) (i : Nat) (v : Byte) : StreamDecoder :=
  { d with buf := d.buf.set i v }

/-- `sd.buf[0 .. sd.count-1]`, the accumulated payload: the only part of the buffer that is ever read
(R20, R23). -/
def StreamDecoder.payload (d : StreamDecoder) : List Byte := d.buf.take d.count

end Sys2Proof.Machine
end

