-- ==== Sys2Proof/WellFormed.lean ====
section
/-!
DEFINITION. Which terms of `Instr` the block gives a meaning. The operand shapes of
spec/30_encoding.md R71 are in the type; the one check left is the bound `MAX_BULK_INPUT` on the
operands of CHECKSUM, ENCODE and DECODE (spec/00_scope.md R12).
-/

namespace Sys2Proof

/-- R12: a length is accepted when there is no bound or it is not above the bound. -/
def bulkFits (bound : Option Nat) (n : Nat) : Bool :=
  match bound with
  | none => true
  | some m => decide (n ≤ m)

def Instr.wellFormed (cfg : Config) : Instr → Bool
  | .checksum data => bulkFits cfg.maxBulkInput data.length
  | .encode payload => bulkFits cfg.maxBulkInput payload.length
  | .decode packet => bulkFits cfg.maxBulkInput packet.length
  | .sdNew => true
  | .sdRecv _ => true
  | .sdResult => true

end Sys2Proof
end

