-- ==== Sys2Proof/Machine/Operands.lean ====
section
/-!
DEFINITION. Operand forms: the sequence notation of spec/00_scope.md R14, and the bound on bulk
operands (R12). Operand bytes are used as they are, never extended or assembled (R76).
-/

namespace Sys2Proof.Machine

/-- R14 `s[i]`. Every use has `i` inside the sequence; the 0 is never seen. -/
def byteAt (s : List Byte) (i : Nat) : Byte := s.getD i 0x00

/-- R14 `last` inside `s[...]`, for a nonempty sequence. -/
def lastIndex (s : List Byte) : Nat := s.length - 1

/-- R14 `s[i..j]`, the inclusive slice, empty when `j < i`. -/
def slice (s : List Byte) (i j : Nat) : List Byte := (s.take (j + 1)).drop i

/-- R12: whether a bulk operand is within `MAX_BULK_INPUT`. -/
def bulkAccepted (s : State) (operand : List Byte) : Bool :=
  bulkFits s.config.maxBulkInput operand.length

/-- A bulk operation's end: refused above the bound (R12, R206), otherwise the response of R73, which
reports no state tag. -/
def bulkReply (s : State) (operand : List Byte) (reply : Status × List Byte) : State :=
  if bulkAccepted s operand then s.respond reply.1 none reply.2 else s.refuse

end Sys2Proof.Machine
end

