-- ==== Sys2Proof/Machine/Codec.lean ====
section
/-!
DEFINITION. The codec unit: ENCODE and DECODE (spec/41_codec.md R120 to R134). It has no state: both
operations read only their operand, the table and the constants (R133).
-/

namespace Sys2Proof.Machine

/-- R120, the packet of a payload: `[HEADER, len(payload)] ++ payload ++ [Checksum(payload)]`. -/
def frame (payload : List Byte) : List Byte :=
  [header, BitVec.ofNat 8 payload.length] ++ payload ++ [checksum payload]

/-- R120: LengthError when the payload is longer than `MAX_PAYLOAD`, otherwise the packet. -/
def encodePayload (cfg : Config) (payload : List Byte) : Status × List Byte :=
  if payload.length > cfg.maxPayload.val then (.lengthError, []) else (.ok, frame payload)

/-- `packet[2 .. last-1]`, the payload slice (R129, R130). -/
def payloadSlice (packet : List Byte) : List Byte := slice packet 2 (lastIndex packet - 1)

/-- R125: the four checks in order, the first that fails deciding (R126 to R129), then the payload slice
(R130). The subtraction is on integers, and the length byte is not compared with `MAX_PAYLOAD`
(R128, spec/90_conflicts.md C3). -/
def decodePacket (packet : List Byte) : Status × List Byte :=
  if packet.length < minPacket then (.lengthError, [])
  else if byteAt packet 0 ≠ header then (.headerError, [])
  else if (byteAt packet 1).toNat ≠ packet.length - 3 then (.lengthFieldError, [])
  else if byteAt packet (lastIndex packet) ≠ checksum (payloadSlice packet) then (.crcError, [])
  else (.ok, payloadSlice packet)

/-- ENCODE (R120): no register is written. -/
def execEncode (payload : List Byte) (s : State) : Host.Outcome State Fault Refusal :=
  .next (bulkReply s payload (encodePayload s.config payload))

/-- DECODE (R125): no register is written. -/
def execDecode (packet : List Byte) (s : State) : Host.Outcome State Fault Refusal :=
  .next (bulkReply s packet (decodePacket packet))

end Sys2Proof.Machine
end

