-- ==== Sys2Proof/Machine/Stream.lean ====
section
/-!
DEFINITION. The stream decoder unit: SD_NEW, SD_RECV and SD_RESULT (spec/42_stream_decoder.md R140 to
R152).
-/

namespace Sys2Proof.Machine

/-- R140: the registers of a fresh decoder. The buffer's contents are unspecified, so each entry is a
free value (log entry 5). -/
def freshDecoder (cfg : Config) (draw : Nat) : StreamDecoder :=
  { state := .waitForHeader, explen := none, buf := freeBuf draw cfg.maxPayload.val, count := 0 }

/-- SD_NEW (R140), valid in every state; the fault record and the refusal mark are kept. -/
def execSdNew (s : State) : Host.Outcome State Fault Refusal :=
  .next (((s.setSd (freshDecoder s.config s.draws)).nextDraw).respond .ok (some .waitForHeader) [])

/-- How one SD_RECV ends (R141, R142). -/
inductive RecvEnd where
  /-- A response with this status, the registers being `d` after the request. -/
  | done (st : Status) (d : StreamDecoder)
  /-- A model fault; no register changes. -/
  | modelFault (f : ModelFault)
  deriving DecidableEq, Repr

/-- R143. -/
def recvHeader (b : Byte) (d : StreamDecoder) : RecvEnd :=
  if b ≠ header then .done .headerError d
  else .done .ok { d with state := .waitForLength }

/-- R144, R145 and R146, in the order of R142. -/
def recvLength (cfg : Config) (b : Byte) (d : StreamDecoder) : RecvEnd :=
  if b.toNat > cfg.maxPayload.val then .done .lengthFieldError d
  else if b = 0x00 then
    match cfg.zeroLengthStream with
    | .fault => .modelFault .zeroLengthStream
    | .accept => .done .ok { d with explen := some 0x00, state := .waitForCrc }
  else .done .ok { d with explen := some b, state := .waitForData }

/-- R147, the append: `BufWrite(sd.count, b)`, then `sd.count <- sd.count + 1`. -/
def appendByte (b : Byte) (d : StreamDecoder) : StreamDecoder :=
  { d.bufWrite d.count b with count := d.count + 1 }

/-- R147. With `sd.explen` unwritten, which no run reaches, reading it is a model fault (U4, log entry 7). -/
def recvData (b : Byte) (d : StreamDecoder) : RecvEnd :=
  match d.explen with
  | none => .modelFault .explenUnwritten
  | some n =>
    if d.count + 1 = n.toNat then .done .ok { appendByte b d with state := .waitForCrc }
    else .done .ok (appendByte b d)

/-- R148, R149. -/
def recvCrc (b : Byte) (d : StreamDecoder) : RecvEnd :=
  if b ≠ checksum d.payload then .done .crcError d
  else .done .ok { d with state := .payloadReady }

/-- R142: the one transition of the machine. -/
def recvByte (cfg : Config) (b : Byte) (d : StreamDecoder) : RecvEnd :=
  match d.state with
  | .waitForHeader => recvHeader b d
  | .waitForLength => recvLength cfg b d
  | .waitForData => recvData b d
  | .waitForCrc => recvCrc b d
  | .payloadReady => .modelFault .undefinedFeed

/-- What the machine does with the end of an SD_RECV: the response reports `sd.state` after the request
(R73). -/
def finishRecv (s : State) : RecvEnd → State
  | .done st d => (s.setSd d).respond st (some d.state) []
  | .modelFault f => s.recordFault f

/-- SD_RECV (R142). -/
def execSdRecv (b : Byte) (s : State) : Host.Outcome State Fault Refusal :=
  .next (finishRecv s (recvByte s.config b s.sd))

/-- SD_RESULT (R152): the payload in `PAYLOAD_READY`, a model fault elsewhere; no register is written. -/
def execSdResult (s : State) : Host.Outcome State Fault Refusal :=
  if s.sd.state ≠ .payloadReady then .next (s.recordFault .resultNotReady)
  else .next (s.respond .ok (some .payloadReady) s.sd.payload)

end Sys2Proof.Machine
end

