-- ==== Sys2Proof/Machine/Dispatch.lean ====
section
/-!
DEFINITION. One arm per operation (spec/00_scope.md R17), each a direct call of its meaning.
-/

namespace Sys2Proof.Machine

def exec (i : Instr) (s : State) : Host.Outcome State Fault Refusal :=
  match i with
  | .checksum data => Sys2Proof.Machine.execChecksum data s
  | .encode payload => Sys2Proof.Machine.execEncode payload s
  | .decode packet => Sys2Proof.Machine.execDecode packet s
  | .sdNew => Sys2Proof.Machine.execSdNew s
  | .sdRecv b => Sys2Proof.Machine.execSdRecv b s
  | .sdResult => Sys2Proof.Machine.execSdResult s

end Sys2Proof.Machine
end

