-- ==== Sys2Proof/Machine/Step.lean ====
section
/-!
DEFINITION. One step of the machine: accept the next request its host has issued, and run it to its
end (spec/20_memory.md R47, spec/00_scope.md R16). The block fetches nothing (spec/10_state.md R27):
its "program" is the list of requests (log entries 1 and 8). It serves one requester and is untimed (log
entries 12 and 13).
-/

namespace Sys2Proof.Machine

/-- R47: the next request is accepted and runs to completion. One that does not decode is refused
(R75, R206). With no request pending the block keeps its state (U16, log entry 1). -/
def step (s : State) : Host.Outcome State Fault Refusal :=
  match s.requests with
  | [] => .next s
  | r :: rest =>
    match decodeRequest r with
    | .ok i => exec i (s.setRequests rest)
    | .error _ => .next (s.setRequests rest).refuse

/-- The host issues the table word's request as the next one to be accepted (log entries 8 and 9). -/
def State.withFetchWord (s : State) (nbits w : Nat) : State :=
  s.setRequests (tableRequest nbits w :: s.requests)

end Sys2Proof.Machine
end

