-- ==== Sys2Proof/Machine/Flags.lean ====
section
/-!
DEFINITION. The block holds no flags or condition codes (spec/10_state.md R28). Each response carries
a status code and a state tag instead; their 3-bit encodings are here (spec/30_encoding.md R72, R74).
-/

namespace Sys2Proof.Machine

/-- R72: the status codes. -/
def Status.code : Status → BitVec 3
  | .ok => 0
  | .lengthError => 1
  | .headerError => 2
  | .lengthFieldError => 3
  | .crcError => 4

/-- R74: the state tags' codes. -/
def StateTag.code : StateTag → BitVec 3
  | .waitForHeader => 0
  | .waitForLength => 1
  | .waitForData => 2
  | .waitForCrc => 3
  | .payloadReady => 4

/-- R72 read backwards; codes 5 to 7 are unused. -/
def statusOfCode (c : BitVec 3) : Option Status :=
  match c.toNat with
  | 0 => some .ok
  | 1 => some .lengthError
  | 2 => some .headerError
  | 3 => some .lengthFieldError
  | 4 => some .crcError
  | _ => none

/-- R74 read backwards; codes 5 to 7 are unreachable. -/
def stateTagOfCode (c : BitVec 3) : Option StateTag :=
  match c.toNat with
  | 0 => some .waitForHeader
  | 1 => some .waitForLength
  | 2 => some .waitForData
  | 3 => some .waitForCrc
  | 4 => some .payloadReady
  | _ => none

/-- R70: a response as the interface carries it, a 3-bit status, a 3-bit tag or `none`, and bytes. -/
def Response.wire (r : Response) : BitVec 3 × Option (BitVec 3) × List Byte :=
  (r.status.code, r.state.map StateTag.code, r.result)

end Sys2Proof.Machine
end

