-- ==== Sys2Proof/Machine/Program.lean ====
section
/-!
DEFINITION. Programs for the block: the request lines of spec/30_encoding.md R78, the pseudo-instruction
`sd.feed` (R79), how a host issues them, and the written form of a line.
-/

namespace Sys2Proof.Machine

/-- A program line (R78, R79). -/
inductive Line where
  | request (i : Instr)
  /-- `sd.feed [b0, ..., bn-1]` (R79). -/
  | feed (bs : List Byte)
  deriving DecidableEq, Repr

/-- R79: `sd.feed` expands to one `sd.recv` per byte, in order. -/
def feedExpansion (bs : List Byte) : List Instr := bs.map Instr.sdRecv

/-- R78: the requests of a line. -/
def Line.requests : Line → List Request
  | .request i => [encodeRequest i]
  | .feed bs => (feedExpansion bs).map encodeRequest

/-- R78: "A program's encoding is the list of its requests". -/
def assemble (program : List Line) : List Request := program.flatMap Line.requests

/-- The host issues requests after those already issued (R47). -/
def State.enqueue (s : State) (rs : List Request) : State := s.setRequests (s.requests ++ rs)

/-- Run a list of operations one after another, whatever their responses. -/
def runInstrs : List Instr → State → Host.Outcome State Fault Refusal
  | [], s => .next s
  | i :: is, s =>
    match exec i s with
    | .next t => runInstrs is t
    | .fault r => .fault r
    | .refused r => .refused r

/-- R79: the host issues every request of an `sd.feed`, "whatever status the earlier ones returned,
unless one ends in a model fault", which shows in the fault record (log entry 20). -/
def runFeed : List Byte → State → Host.Outcome State Fault Refusal
  | [], s => .next s
  | b :: bs, s =>
    match exec (.sdRecv b) s with
    | .next t => if t.faultRecord = s.faultRecord then runFeed bs t else .next t
    | .fault r => .fault r
    | .refused r => .refused r

/-- One line, as the host issues it. -/
def runLine : Line → State → Host.Outcome State Fault Refusal
  | .request i, s => exec i s
  | .feed bs, s => runFeed bs s

/-- A whole program, line by line. -/
def runProgram : List Line → State → Host.Outcome State Fault Refusal
  | [], s => .next s
  | l :: ls, s =>
    match runLine l s with
    | .next t => runProgram ls t
    | .fault r => .fault r
    | .refused r => .refused r

/-- R78: a byte as two hex digits. -/
def hexByte (b : Byte) : String :=
  let digit (n : Nat) : Char := "0123456789ABCDEF".toList.getD n '0'
  String.ofList [digit (b.toNat / 16), digit (b.toNat % 16)]

/-- R78: a byte list, "written in hex without `0x` inside lists". -/
def hexList (bs : List Byte) : String := "[" ++ ", ".intercalate (bs.map hexByte) ++ "]"

/-- R78, R79: the written form of a line. -/
def Line.render : Line → String
  | .request (.checksum data) => "checksum " ++ hexList data
  | .request (.encode payload) => "encode " ++ hexList payload
  | .request (.decode packet) => "decode " ++ hexList packet
  | .request .sdNew => "sd.new"
  | .request (.sdRecv b) => "sd.recv 0x" ++ hexByte b
  | .request .sdResult => "sd.result"
  | .feed bs => "sd.feed " ++ hexList bs

end Sys2Proof.Machine
end

