-- ==== Sys2Proof/Machine/Transport.lean ====
section
/-!
DEFINITION. The host contract: SendCommand, Move and the byte stream (spec/60_exceptions.md R230 to
R241). The spec puts these outside the block (spec/00_scope.md R5), so nothing of the machine depends on
this file: it is a program that issues requests to the block, driven by what the link and the clock
show it (log entries 14 and 16 to 19).
-/

namespace Sys2Proof.Machine

/-- One request and its response; `none` when it ends in a model fault or a refusal, which produce no
response (R73). -/
def issue (i : Instr) (s : State) : State × Option Response :=
  match exec i s with
  | .next t => (t, (t.responses.drop s.responses.length).head?)
  | .fault _ => (s, none)
  | .refused _ => (s, none)

/-- What the host sees of the byte stream and the clock at one point of an attempt (R239). Bytes may
arrive in any amount at any time (spec/70_reset_and_hazards.md R266); a read that returns several is
one `byte` each, in order. -/
inductive LinkEvent where
  /-- The write and flush of an attempt have completed; the clock reads `now` (R232, C4). -/
  | written (now : Nat)
  /-- A read returned this byte. -/
  | byte (b : Byte)
  /-- A read returned nothing; the clock reads `now`. -/
  | noByte (now : Nat)
  /-- The stream's write, flush or read failed (R240, D34; log entry 14). -/
  | ioFailure
  deriving DecidableEq, Repr

/-- How a SendCommand ends. -/
inductive SendEnd where
  /-- The decoded response payload (R235). -/
  | payload (p : List Byte)
  /-- ENCODE raised LengthError (R231, D30). -/
  | lengthError
  /-- R241: every attempt of the budget failed. -/
  | transmissionError
  /-- An I/O failure under the policy `propagate` (D34). -/
  | ioError
  /-- The block gave no response to ENCODE or SD_RESULT (log entry 17). -/
  | noResponse
  deriving DecidableEq, Repr

/-- Where a SendCommand stands. -/
inductive Phase where
  /-- An attempt is to begin: its write and flush are next (R232). -/
  | starting
  /-- The attempt polls the stream; `start` is the time recorded after the write, the flush and SD_NEW. -/
  | polling (start : Nat)
  | ended (e : SendEnd)
  deriving DecidableEq, Repr

/-- The host side of one SendCommand, with the block it drives. -/
structure Transport where
  block : State
  packet : List Byte
  /-- Attempts made: those whose packet has been written, and those whose write or flush failed. -/
  attempts : Nat
  /-- Every byte written to the stream, oldest first. -/
  wire : List Byte
  phase : Phase
  deriving DecidableEq, Repr

/-- R234: a failed attempt; start again unless the budget is used up. -/
def Transport.failAttempt (hc : HostConfig) (t : Transport) : Transport :=
  { t with phase := if t.attempts < hc.maxRetry then .starting else .ended .transmissionError }

/-- D34: what an I/O failure does is the host's policy. -/
def Transport.failIo (hc : HostConfig) (t : Transport) : Transport :=
  match hc.ioFailurePolicy with
  | .propagate => { t with phase := .ended .ioError }
  | .retry => t.failAttempt hc

/-- An attempt whose write or flush failed counts as one, so that the retry ceiling bounds it (R240, log
entry 14); its packet is not put on the wire. -/
def Transport.failWrite (hc : HostConfig) (t : Transport) : Transport :=
  ({ t with attempts := t.attempts + 1 }).failIo hc

/-- R231: encode once, before any attempt; on LengthError make no attempt. -/
def sendCommand (hc : HostConfig) (payload : List Byte) (block : State) : Transport :=
  let (b, r) := issue (.encode payload) block
  let t : Transport := { block := b, packet := [], attempts := 0, wire := [], phase := .starting }
  match r with
  | none => { t with phase := .ended .noResponse }
  | some r =>
    if r.status = .ok then ({ t with packet := r.result }).failAttempt hc
    else { t with phase := .ended .lengthError }

/-- R232: the packet is on the wire, the decoder fresh, and `start` recorded. -/
def Transport.beginAttempt (now : Nat) (t : Transport) : Transport :=
  { t with
    block := (issue .sdNew t.block).1
    attempts := t.attempts + 1
    wire := t.wire ++ t.packet
    phase := .polling now }

/-- R235: read the payload on `PAYLOAD_READY`. -/
def Transport.finish (t : Transport) : Transport :=
  let (b, r) := issue .sdResult t.block
  match r with
  | some r => { t with block := b, phase := .ended (.payload r.result) }
  | none => { t with block := b, phase := .ended .noResponse }

/-- R233, R234, R235: feed one byte to the decoder and act on its response. -/
def Transport.feedByte (hc : HostConfig) (b : Byte) (t : Transport) : Transport :=
  let (blk, r) := issue (.sdRecv b) t.block
  let t := { t with block := blk }
  match r with
  | none => t
  | some r =>
    if r.status ≠ .ok then t.failAttempt hc
    else if r.state = some .payloadReady then t.finish
    else t

/-- R233: the timeout is tested only when no byte is available, against the start of the attempt, with
strict `>`. -/
def Transport.poll (hc : HostConfig) (start now : Nat) (t : Transport) : Transport :=
  if now - start > hc.timeout then t.failAttempt hc else t

/-- One move of the host. An event the phase does not wait for is no move. -/
def Transport.move (hc : HostConfig) (e : LinkEvent) (t : Transport) : Transport :=
  match t.phase, e with
  | .starting, .written now => t.beginAttempt now
  | .starting, .ioFailure => t.failWrite hc
  | .starting, .byte _ => t
  | .starting, .noByte _ => t
  | .polling _, .byte b => t.feedByte hc b
  | .polling start, .noByte now => t.poll hc start now
  | .polling _, .ioFailure => t.failIo hc
  | .polling _, .written _ => t
  | .ended _, _ => t

/-- The moves for a list of events, in order. -/
def Transport.moves (hc : HostConfig) (es : List LinkEvent) (t : Transport) : Transport :=
  es.foldl (fun t e => t.move hc e) t

/-- R236: a 32-bit field, little-endian: byte `i` is `v[8i+7 : 8i]`. -/
def le32 (v : BitVec 32) : List Byte :=
  [v.extractLsb' 0 8, v.extractLsb' 8 8, v.extractLsb' 16 8, v.extractLsb' 24 8]

/-- R236: the Queue-Extended-Point payload, 25 bytes (C1): opcode, five signed positions in two's
complement (log entry 19), and an unsigned rate. -/
def qepPayload (opcode : Byte) (position : Vector (BitVec 32) 5) (rate : BitVec 32) : List Byte :=
  [opcode] ++ le32 position[0] ++ le32 position[1] ++ le32 position[2] ++ le32 position[3] ++
    le32 position[4] ++ le32 rate

/-- What the stream does with the one write and flush of a Move: "the underlying stream's write/flush
operations raise", or they do not (R238, R239). -/
inductive WriteOutcome where
  /-- Both returned. -/
  | returned
  /-- The write raised after `sent` bytes of the packet; the spec does not say how many, so any number
  may be given (log entry 14). -/
  | writeRaised (sent : Nat)
  /-- The write returned and the flush raised. -/
  | flushRaised
  deriving DecidableEq, Repr

/-- How a Move ends for its caller. -/
inductive MoveEnd where
  /-- The write and the flush returned; nothing is known of the device (R237 "fire-and-forget"). -/
  | written
  /-- What the stream raised, passed on: the only failure of transmission Move reports (R238). -/
  | streamError
  /-- ENCODE raised LengthError; nothing is written (log entry 17). -/
  | lengthError
  /-- The block gave no response to ENCODE; nothing is written (log entry 17). -/
  | noResponse
  deriving DecidableEq, Repr

/-- One Move: the block after it, the packet ENCODE gave, the bytes put on the stream, and its end. -/
structure MoveRun where
  block : State
  packet : List Byte
  wire : List Byte
  ending : MoveEnd
  deriving DecidableEq, Repr

/-- R237, R238: what the write and flush of a packet put on the stream and give the caller. -/
def writeOnce (packet : List Byte) (block : State) : WriteOutcome → MoveRun
  | .returned => { block, packet, wire := packet, ending := .written }
  | .writeRaised sent => { block, packet, wire := packet.take sent, ending := .streamError }
  | .flushRaised => { block, packet, wire := packet, ending := .streamError }

/-- R237: Move frames its payload with ENCODE once and writes the packet to the stream; it reads no
response and does not retry. -/
def moveCommand (hc : HostConfig) (position : Vector (BitVec 32) 5) (rate : BitVec 32)
    (stream : WriteOutcome) (block : State) : MoveRun :=
  match issue (.encode (qepPayload hc.qepOpcode position rate)) block with
  | (b, some r) =>
    if r.status = .ok then writeOnce r.result b stream
    else { block := b, packet := [], wire := [], ending := .lengthError }
  | (b, none) => { block := b, packet := [], wire := [], ending := .noResponse }

end Sys2Proof.Machine
end

