-- ==== Sys2Proof/Safety.lean ====
section
/-!
DEFINITION. The terms claims are made in: a good run and its observation (spec/70_reset_and_hazards.md
R268), the decoder's invariants (spec/10_state.md R25), the launch premises (R251), the host's duties
(spec/60_exceptions.md R230), and what the block lets its host observe (spec/10_state.md R33).
-/

namespace Sys2Proof.Machine

/-- R268: a run is good if "the fault record is empty and the refusal mark is clear". R35 makes this a
premise of any claim about the block's defined behaviour. -/
def State.good (s : State) : Bool := decide (s.faultRecord = []) && !s.refusalMark

/-- The registers' specified contents: the tag, `sd.explen` or unwritten, `sd.count`, and the part of the
buffer that is ever read (R20 to R24, R34). Buffer entries at or above `sd.count` are unspecified. -/
def StreamDecoder.specified (d : StreamDecoder) : StateTag × Option Byte × Nat × List Byte :=
  (d.state, d.explen, d.count, d.payload)

/-- R268: the observation of a run is "the list of responses together with the final stream-decoder
registers". -/
def State.observation (s : State) : List Response × (StateTag × Option Byte × Nat × List Byte) :=
  (s.responses, s.sd.specified)

/-- R22: a written `sd.explen` lies in 0..`MAX_PAYLOAD`. -/
def explenBounded (cfg : Config) : Option Byte → Bool
  | none => true
  | some n => decide (n.toNat ≤ cfg.maxPayload.val)

/-- R25, clause by clause. -/
def StreamDecoder.tagInv (cfg : Config) (d : StreamDecoder) : Bool :=
  match d.state, d.explen with
  | .waitForHeader, _ => decide (d.count = 0)
  | .waitForLength, _ => decide (d.count = 0)
  | .waitForData, some n =>
    decide (1 ≤ n.toNat) && decide (n.toNat ≤ cfg.maxPayload.val) && decide (d.count < n.toNat)
  | .waitForData, none => false
  | .waitForCrc, some n => decide (d.count = n.toNat) && decide (n.toNat ≤ cfg.maxPayload.val)
  | .waitForCrc, none => false
  | .payloadReady, some n => decide (d.count = n.toNat) && decide (n.toNat ≤ cfg.maxPayload.val)
  | .payloadReady, none => false

/-- The invariants of every reachable state: the buffer has `MAX_PAYLOAD` bytes (R23), `sd.explen` is in
range (R22), and R25. -/
def StreamDecoder.inv (cfg : Config) (d : StreamDecoder) : Bool :=
  decide (d.buf.length = cfg.maxPayload.val) && explenBounded cfg d.explen && d.tagInv cfg

def State.inv (s : State) : Bool := s.sd.inv s.config

/-- R251: the launch premises that are about the state. -/
def State.launch (s : State) : Bool :=
  s.good && decide (s.sd.specified = (StreamDecoder.reset s.config).specified) &&
    decide (s.requests = []) && s.inv

/-- R230: the duties of a host whose next operation is `i`: no SD_RECV in `PAYLOAD_READY`, no SD_RESULT
elsewhere. -/
def hostMayIssue (s : State) : Instr → Bool
  | .sdRecv _ => decide (s.sd.state ≠ .payloadReady)
  | .sdResult => decide (s.sd.state = .payloadReady)
  | .checksum _ => true
  | .encode _ => true
  | .decode _ => true
  | .sdNew => true

/-- R75, in its own words: a selector with `sel[7:3] != 0`, a reserved selector, or an operand without
the shape of R71. -/
def illegalRequest (r : Request) : Bool :=
  decide (8 ≤ r.sel.toNat) || decide (r.sel = 0x06) || decide (r.sel = 0x07) ||
    (decide (r.sel = 0x03 ∨ r.sel = 0x05) && decide (r.operand ≠ [])) ||
    (decide (r.sel = 0x04) && decide (r.operand.length ≠ 1))

/-- R12: a CHECKSUM, ENCODE or DECODE request whose operand is longer than `MAX_BULK_INPUT`. -/
def overBulkRequest (cfg : Config) (r : Request) : Bool :=
  decide (r.sel.toNat ≤ 2) && !bulkFits cfg.maxBulkInput r.operand.length

/-- Two states no request can tell apart: they agree on everything but the unspecified buffer entries and
the draw counter (R33, U5). -/
def State.sameView (s t : State) : Prop :=
  s.config = t.config ∧ s.sd.specified = t.sd.specified ∧ s.faultRecord = t.faultRecord ∧
    s.refusalMark = t.refusalMark ∧ s.requests = t.requests ∧ s.responses = t.responses

end Sys2Proof.Machine
end

