-- ==== Sys2Proof/Certificates/Slice0/Obligations.lean ====
section
/-!
DEFINITION. The statements for the provers, each from a numbered rule of spec/. They are about every
state unless a premise says otherwise; `State.inv` is the invariant of spec/10_state.md R25, which
`StepKeepsDecoderInvariant` says every step keeps.
-/

open Sys2Proof Sys2Proof.Machine

/-! ## Requests: decoding, encoding, and one step -/

/-- R71 (selectors, decision D3): `sel[7:3]` must be 00000; the eight values of `sel[2:0]`, each with the
operand shape it takes. -/
def Obligations.SelectorTableDecodes : Prop :=
  ∀ ops : List Byte, ∀ b : Byte,
    decodeRequest { sel := 0x00, operand := ops } = .ok (.checksum ops) ∧
    decodeRequest { sel := 0x01, operand := ops } = .ok (.encode ops) ∧
    decodeRequest { sel := 0x02, operand := ops } = .ok (.decode ops) ∧
    decodeRequest { sel := 0x03, operand := [] } = .ok .sdNew ∧
    decodeRequest { sel := 0x04, operand := [b] } = .ok (.sdRecv b) ∧
    decodeRequest { sel := 0x05, operand := [] } = .ok .sdResult ∧
    decodeRequest { sel := 0x06, operand := ops } = .error .reservedSelector ∧
    decodeRequest { sel := 0x07, operand := ops } = .error .reservedSelector ∧
    (ops ≠ [] → decodeRequest { sel := 0x03, operand := ops } = .error .operandShape ∧
      decodeRequest { sel := 0x05, operand := ops } = .error .operandShape) ∧
    (ops.length ≠ 1 → decodeRequest { sel := 0x04, operand := ops } = .error .operandShape) ∧
    ∀ sel : Byte, 8 ≤ sel.toNat →
      decodeRequest { sel, operand := ops } = .error .selectorHighBits

/-- Six words written out from the encodings of spec/opcode_table.json, the operand byte of SD_RECV in bits
15..8. -/
def Obligations.TableWordsDecode : Prop :=
  decodeTableWord 8 0b00000000 = some (.checksum []) ∧
  decodeTableWord 8 0b00000001 = some (.encode []) ∧
  decodeTableWord 8 0b00000010 = some (.decode []) ∧
  decodeTableWord 8 0b00000011 = some .sdNew ∧
  decodeTableWord 16 0b1101010100000100 = some (.sdRecv 0xD5) ∧
  decodeTableWord 8 0b00000101 = some .sdResult

/-- Decode and encode agree in both directions: a request decodes to an operation exactly when it is the
encoding of that operation, so no operand is dropped and no second request means the same. -/
def Obligations.DecodeEncodeAgree : Prop :=
  ∀ (r : Request) (i : Instr), decodeRequest r = .ok i ↔ r = encodeRequest i

/-- R47, R70: the next request, when it decodes to `i`, is taken from the queue and runs as `i`; the rest
of the state is what the earlier requests left. -/
def Obligations.StepRunsDecodedRequest : Prop :=
  ∀ (s : State) (r : Request) (rest : List Request) (i : Instr),
    s.requests = r :: rest → decodeRequest r = .ok i →
    step s = exec i { s with requests := rest }

/-- With no request pending a step leaves the state as it is. THE MODEL'S CHOICE (log entry 1): the spec
says of a block no byte reaches that "the decoder simply keeps its state" (U16). -/
def Obligations.IdleStepKeepsState : Prop :=
  ∀ s : State, s.requests = [] → step s = .next s

/-- R75 (decision D12): a request in one of the three cases is refused: no register, no response. -/
def Obligations.IllegalRequestIsRefused : Prop :=
  ∀ (s : State) (r : Request) (rest : List Request),
    s.requests = r :: rest →
    (8 ≤ r.sel.toNat ∨ r.sel = 0x06 ∨ r.sel = 0x07 ∨
      ((r.sel = 0x03 ∨ r.sel = 0x05) ∧ r.operand ≠ []) ∨ (r.sel = 0x04 ∧ r.operand.length ≠ 1)) →
    step s = .next { s with requests := rest, refusalMark := true }

/-- R206 (decision D12): the three kinds of request that end in a refusal, and no others; no step clears
the mark. -/
def Obligations.RefusalsAreExactlyTheThreeKinds : Prop :=
  (∀ (s : State) (r : Request) (rest : List Request),
    s.requests = r :: rest →
    (step s = .next { s with requests := rest, refusalMark := true } ↔
      illegalRequest r = true ∨ overBulkRequest s.config r = true)) ∧
  ∀ s t : State, step s = .next t → s.refusalMark = true → t.refusalMark = true

/-- R12 (decision D6): unbounded by default; above the bound CHECKSUM, ENCODE and DECODE are refused. -/
def Obligations.BulkBoundRefuses : Prop :=
  State.reset.config.maxBulkInput = none ∧
  ∀ (s : State) (m : Nat) (ops : List Byte),
    s.config.maxBulkInput = some m → m < ops.length →
    exec (.checksum ops) s = .next { s with refusalMark := true } ∧
    exec (.encode ops) s = .next { s with refusalMark := true } ∧
    exec (.decode ops) s = .next { s with refusalMark := true }

/-- R72, R74 (decisions D4, D5): the codes, 5 to 7 unused. -/
def Obligations.StatusAndTagCodes : Prop :=
  (Status.code .ok = 0 ∧ Status.code .lengthError = 1 ∧ Status.code .headerError = 2 ∧
    Status.code .lengthFieldError = 3 ∧ Status.code .crcError = 4) ∧
  (StateTag.code .waitForHeader = 0 ∧ StateTag.code .waitForLength = 1 ∧
    StateTag.code .waitForData = 2 ∧ StateTag.code .waitForCrc = 3 ∧
    StateTag.code .payloadReady = 4) ∧
  (∀ st : Status, statusOfCode st.code = some st) ∧
  (∀ tag : StateTag, stateTagOfCode tag.code = some tag) ∧
  (∀ c : BitVec 3, 5 ≤ c.toNat → statusOfCode c = none ∧ stateTagOfCode c = none)

/-- R73 (decision D3): the state tag and the result of every response, operation by operation. -/
def Obligations.ResponseFieldsPerOperation : Prop :=
  ∀ (i : Instr) (s t : State) (r : Response),
    exec i s = .next t → t.responses = s.responses ++ [r] →
    match i with
    | .checksum data => r = { status := .ok, state := none, result := [checksum data] }
    | .encode p => r.state = none ∧
        ((r.status = .ok ∧ r.result = [0xD5, BitVec.ofNat 8 p.length] ++ p ++ [checksum p]) ∨
          (r.status = .lengthError ∧ r.result = []))
    | .decode p => r.state = none ∧
        ((r.status = .ok ∧ r.result = (p.drop 2).take (p.length - 3)) ∨
          (r.status ≠ .ok ∧ r.result = []))
    | .sdNew => r = { status := .ok, state := some .waitForHeader, result := [] } ∧
        t.sd.state = .waitForHeader
    | .sdRecv _ => r.state = some t.sd.state ∧ r.result = [] ∧ r.status ≠ .lengthError
    | .sdResult => r = { status := .ok, state := some .payloadReady, result := s.sd.payload } ∧
        t.sd.state = .payloadReady

/-- R70, R205, R206: an accepted request ends in one of three ways: with one response, with one recorded
model fault and nothing else, or with the refusal mark set and nothing else. In each the responses given
before are kept, in a list that is THE MODEL'S CHOICE (log entry 2). -/
def Obligations.OneOutcomePerRequest : Prop :=
  ∀ (s t : State) (r : Request) (rest : List Request),
    s.requests = r :: rest → step s = .next t →
    s.responses <+: t.responses ∧
    ((∃ resp, t.responses = s.responses ++ [resp] ∧ t.faultRecord = s.faultRecord ∧
      t.refusalMark = s.refusalMark) ∨
    (∃ f, t = { s with requests := rest, faultRecord := s.faultRecord ++ [f] }) ∨
    t = { s with requests := rest, refusalMark := true })

/-! ## The CRC unit -/

/-- R104: CHECKSUM completes with status OK and the byte the pseudocode computes and writes no register;
the bound refuses; the selector, the corner cases and the example. -/
def Obligations.ChecksumComputesTheTableCrc : Prop :=
  (∀ data : List Byte, decodeRequest { sel := 0x00, operand := data } = .ok (.checksum data)) ∧
  (∀ (s : State) (data : List Byte), bulkFits s.config.maxBulkInput data.length = true →
    exec (.checksum data) s = .next { s with responses := s.responses ++
      [{ status := .ok, state := none,
         result := [data.foldl (fun acc b => crcTable.getD (acc ^^^ b).toNat 0) 0x00] }] }) ∧
  (∀ (s : State) (data : List Byte), bulkFits s.config.maxBulkInput data.length = false →
    exec (.checksum data) s = .next { s with refusalMark := true }) ∧
  (∀ n : Nat, checksum (List.replicate n 0x00) = 0x00) ∧
  checksum [0x01, 0x02] = 0x78

/-- R105, marked by the spec as its own inference from R101 and R104: the six properties of Checksum. -/
def Obligations.ChecksumProperties : Prop :=
  checksum [] = 0x00 ∧
  (∀ (d : List Byte) (b : Byte), checksum (d ++ [b]) = crcTable.getD (checksum d ^^^ b).toNat 0) ∧
  (∀ d : List Byte, checksum (d ++ [checksum d]) = 0x00) ∧
  (∀ a b : Byte, crcEntry (a ^^^ b) = crcEntry a ^^^ crcEntry b) ∧
  (∀ a b : Byte, crcEntry a = crcEntry b → a = b) ∧
  (∀ (d : List Byte) (k : Nat) (b : Byte), k < d.length → d[k]? ≠ some b →
    checksum (d.set k b) ≠ checksum d)

/-- R103, which the spec marks as general knowledge: the table is the one-byte CRC of each index, and one
table step is one bitwise CRC step, on all 65,536 inputs. -/
def Obligations.TableAgreesWithBitwiseCrc : Prop :=
  (∀ k : Byte, crcTable[k.toNat]? = some (bitcrc 0x00 k)) ∧
  ∀ acc b : Byte, crcStep acc b = bitcrc acc b

/-- R106 and vectors V-CRC5, V-CRC10 to V-CRC14 of spec/95_test_vectors.md. -/
def Obligations.ChecksumReferenceValues : Prop :=
  checksum [0x31, 0x32, 0x33, 0x34, 0x35, 0x36, 0x37, 0x38, 0x39] = 0xA1 ∧
  checksum [] = 0x00 ∧ checksum [0x01] = 0x5E ∧ checksum [0xFF] = 0x35 ∧
  checksum [0x31, 0x32, 0x33, 0x34, 0x35] = 0xAB ∧
  checksum [0x61, 0x62, 0x63, 0x64, 0x65] = 0x31 ∧
  checksum [0x41, 0x42, 0x43, 0x44, 0x45] = 0xCF ∧
  checksum [0x68, 0x65, 0x6C, 0x6C, 0x6F] = 0x13

/-! ## The codec unit -/

/-- R120, R121: ENCODE completes with the packet up to `MAX_PAYLOAD` bytes and with LengthError from one
byte more, and writes no register; the selector, and the corner cases at the default parameters. -/
def Obligations.EncodeFramesOrLengthError : Prop :=
  (∀ p : List Byte, decodeRequest { sel := 0x01, operand := p } = .ok (.encode p)) ∧
  (∀ (s : State) (p : List Byte), bulkFits s.config.maxBulkInput p.length = true →
    (p.length ≤ s.config.maxPayload.val →
      exec (.encode p) s = .next { s with responses := s.responses ++
        [{ status := .ok, state := none,
           result := [0xD5, BitVec.ofNat 8 p.length] ++ p ++ [checksum p] }] }) ∧
    (s.config.maxPayload.val < p.length →
      exec (.encode p) s = .next { s with responses := s.responses ++
        [{ status := .lengthError, state := none, result := [] }] })) ∧
  ∀ s : State, s.config = Config.default →
    exec (.encode []) s = .next { s with responses := s.responses ++
      [{ status := .ok, state := none, result := [0xD5, 0x00, 0x00] }] } ∧
    exec (.encode [0x01]) s = .next { s with responses := s.responses ++
      [{ status := .ok, state := none, result := [0xD5, 0x01, 0x01, 0x5E] }] } ∧
    exec (.encode (List.replicate 33 0x00)) s = .next { s with responses := s.responses ++
      [{ status := .lengthError, state := none, result := [] }] } ∧
    exec (.encode (List.replicate 32 0x00)) s = .next { s with responses := s.responses ++
      [{ status := .ok, state := none,
         result := [0xD5, 0x20] ++ List.replicate 32 0x00 ++ [0x00] }] }

/-- R122, marked by the spec as its own inference from R120: every packet ENCODE returns is a valid
packet. -/
def Obligations.EncodedPacketIsValid : Prop :=
  ∀ (s t : State) (p pkt : List Byte),
    exec (.encode p) s = .next t →
    t.responses = s.responses ++ [{ status := .ok, state := none, result := pkt }] →
    p.length ≤ s.config.maxPayload.val ∧ pkt.length = p.length + 3 ∧ pkt[0]? = some 0xD5 ∧
    (∃ n : Byte, pkt[1]? = some n ∧ n.toNat = p.length) ∧
    (pkt.drop 2).take p.length = p ∧ pkt.getLast? = some (checksum p)

/-- R125 to R130: the four checks in order, then the payload slice; every outcome is one response and
writes no register. The slice `packet[2 .. last-1]` has `len(packet) - 3` bytes. -/
def Obligations.DecodeChecksInOrder : Prop :=
  (∀ p : List Byte, decodeRequest { sel := 0x02, operand := p } = .ok (.decode p)) ∧
  ∀ (s : State) (p : List Byte), bulkFits s.config.maxBulkInput p.length = true →
    (p.length < 4 →
      exec (.decode p) s = .next { s with responses := s.responses ++
        [{ status := .lengthError, state := none, result := [] }] }) ∧
    (4 ≤ p.length → p[0]? ≠ some 0xD5 →
      exec (.decode p) s = .next { s with responses := s.responses ++
        [{ status := .headerError, state := none, result := [] }] }) ∧
    (∀ n : Byte, 4 ≤ p.length → p[0]? = some 0xD5 → p[1]? = some n → n.toNat ≠ p.length - 3 →
      exec (.decode p) s = .next { s with responses := s.responses ++
        [{ status := .lengthFieldError, state := none, result := [] }] }) ∧
    (∀ n : Byte, 4 ≤ p.length → p[0]? = some 0xD5 → p[1]? = some n → n.toNat = p.length - 3 →
      p.getLast? ≠ some (checksum ((p.drop 2).take (p.length - 3))) →
      exec (.decode p) s = .next { s with responses := s.responses ++
        [{ status := .crcError, state := none, result := [] }] }) ∧
    (∀ n : Byte, 4 ≤ p.length → p[0]? = some 0xD5 → p[1]? = some n → n.toNat = p.length - 3 →
      p.getLast? = some (checksum ((p.drop 2).take (p.length - 3))) →
      exec (.decode p) s = .next { s with responses := s.responses ++
        [{ status := .ok, state := none, result := (p.drop 2).take (p.length - 3) }] } ∧
      ((p.drop 2).take (p.length - 3)).length = n.toNat)

/-- R131 and C3, the spec's inference from R125 to R130: DECODE accepts exactly the consistent packets of 1
to 255 payload bytes, whatever `MAX_PAYLOAD` is, and answers the payload. -/
def Obligations.DecodeAcceptsExactlyFrames : Prop :=
  ∀ (s : State) (p q : List Byte), bulkFits s.config.maxBulkInput p.length = true →
    (exec (.decode p) s = .next { s with responses := s.responses ++
        [{ status := .ok, state := none, result := q }] } ↔
      1 ≤ q.length ∧ q.length ≤ 255 ∧ p = [0xD5, BitVec.ofNat 8 q.length] ++ q ++ [checksum q])

/-- R131, R128: with a correct header, 259 bytes or more are always a LengthFieldError. -/
def Obligations.OverlongPacketIsLengthFieldError : Prop :=
  ∀ (s : State) (rest : List Byte), bulkFits s.config.maxBulkInput (rest.length + 1) = true →
    258 ≤ rest.length →
    exec (.decode (0xD5 :: rest)) s = .next { s with responses := s.responses ++
      [{ status := .lengthFieldError, state := none, result := [] }] }

/-- R132 and C2, the spec's inference from R120 and R125: the packet ENCODE answers decodes to the payload
for 1 to `MAX_PAYLOAD` bytes; the empty payload's packet is a LengthError. -/
def Obligations.EncodeDecodeRoundTrip : Prop :=
  ∀ (s : State) (p : List Byte), s.config.maxBulkInput = none →
    p.length ≤ s.config.maxPayload.val →
    ∃ (t : State) (pkt : List Byte),
      exec (.encode p) s = .next t ∧
      t.responses = s.responses ++ [{ status := .ok, state := none, result := pkt }] ∧
      (1 ≤ p.length → exec (.decode pkt) t = .next { t with responses := t.responses ++
        [{ status := .ok, state := none, result := p }] }) ∧
      (p = [] → exec (.decode pkt) t = .next { t with responses := t.responses ++
        [{ status := .lengthError, state := none, result := [] }] })

/-- Follows from R127 to R129 and the single-byte detection of R105: DECODE rejects every packet that differs
from a valid one in exactly one byte, wherever it is. -/
def Obligations.SingleByteCorruptionIsRejected : Prop :=
  ∀ (s t : State) (q : List Byte) (k : Nat) (b : Byte) (r : Response),
    1 ≤ q.length → q.length ≤ 255 → k < q.length + 3 →
    ([0xD5, BitVec.ofNat 8 q.length] ++ q ++ [checksum q])[k]? ≠ some b →
    exec (.decode (([0xD5, BitVec.ofNat 8 q.length] ++ q ++ [checksum q]).set k b)) s = .next t →
    t.responses = s.responses ++ [r] → r.status ≠ .ok

/-! ## The stream decoder -/

/-- R140: SD_NEW completes in every state; the selector, the three registers it writes, the response, and
what it keeps. The buffer's contents are unspecified: only its size is stated. A second SD_NEW leaves
the same specified contents. -/
def Obligations.SdNewMakesFreshDecoder : Prop :=
  decodeRequest { sel := 0x03, operand := [] } = .ok .sdNew ∧
  ∀ s : State, ∃ t : State,
    exec .sdNew s = .next t ∧
    t.sd.state = .waitForHeader ∧ t.sd.count = 0 ∧ t.sd.explen = none ∧
    t.sd.buf.length = s.config.maxPayload.val ∧
    t.responses = s.responses ++ [{ status := .ok, state := some .waitForHeader, result := [] }] ∧
    t.faultRecord = s.faultRecord ∧ t.refusalMark = s.refusalMark ∧
    t.config = s.config ∧ t.requests = s.requests ∧
    ∃ u : State, exec .sdNew t = .next u ∧ u.sd.specified = t.sd.specified

/-- R250 (decision D11): at power-on the specified contents of the registers are what SD_NEW leaves, from
any state. -/
def Obligations.PowerOnIsWhatSdNewLeaves : Prop :=
  State.reset.sd.state = .waitForHeader ∧ State.reset.sd.count = 0 ∧ State.reset.sd.explen = none ∧
  ∀ s t : State, exec .sdNew s = .next t → t.sd.specified = State.reset.sd.specified

/-- R251 with the defaults of R29 (decision D11): the launch premises hold at reset. -/
def Obligations.ResetMeetsLaunchPremises : Prop :=
  State.reset.launch = true ∧ State.reset.faultRecord = [] ∧ State.reset.refusalMark = false ∧
  State.reset.requests = [] ∧ State.reset.config.maxPayload.val = 32 ∧
  State.reset.config.zeroLengthStream = .accept ∧ State.reset.config.maxBulkInput = none

/-- R143: the header byte, and any other byte. -/
def Obligations.RecvInWaitForHeader : Prop :=
  ∀ (s : State) (b : Byte), s.sd.state = .waitForHeader →
    (b ≠ 0xD5 → exec (.sdRecv b) s = .next { s with responses := s.responses ++
      [{ status := .headerError, state := some .waitForHeader, result := [] }] }) ∧
    (b = 0xD5 → exec (.sdRecv b) s = .next { s with
      sd := { s.sd with state := .waitForLength }
      responses := s.responses ++
        [{ status := .ok, state := some .waitForLength, result := [] }] })

/-- R144: a length byte above `MAX_PAYLOAD`. -/
def Obligations.RecvLengthAboveMaximum : Prop :=
  ∀ (s : State) (b : Byte), s.sd.state = .waitForLength → s.config.maxPayload.val < b.toNat →
    exec (.sdRecv b) s = .next { s with responses := s.responses ++
      [{ status := .lengthFieldError, state := some .waitForLength, result := [] }] }

/-- R145: a length byte of 1..`MAX_PAYLOAD`; `sd.count` stays 0. -/
def Obligations.RecvLengthInRange : Prop :=
  ∀ (s : State) (b : Byte), s.sd.state = .waitForLength → 1 ≤ b.toNat →
    b.toNat ≤ s.config.maxPayload.val →
    exec (.sdRecv b) s = .next { s with
      sd := { s.sd with explen := some b, state := .waitForData }
      responses := s.responses ++ [{ status := .ok, state := some .waitForData, result := [] }] } ∧
    (s.inv = true → s.sd.count = 0)

/-- R146 (decision D7): length byte 0 under both values of `ZERO_LENGTH_STREAM`, and the empty packet
`[D5, 00, 00]` under `accept`. -/
def Obligations.RecvLengthZero : Prop :=
  ∀ s : State, s.sd.state = .waitForLength →
    (s.config.zeroLengthStream = .accept →
      exec (.sdRecv 0x00) s = .next { s with
        sd := { s.sd with explen := some 0x00, state := .waitForCrc }
        responses := s.responses ++
          [{ status := .ok, state := some .waitForCrc, result := [] }] } ∧
      (s.inv = true → ∃ t, runInstrs [.sdRecv 0x00, .sdRecv 0x00, .sdResult] s = .next t ∧
        t.sd.state = .payloadReady ∧
        t.responses = s.responses ++ [{ status := .ok, state := some .waitForCrc, result := [] },
          { status := .ok, state := some .payloadReady, result := [] },
          { status := .ok, state := some .payloadReady, result := [] }])) ∧
    (s.config.zeroLengthStream = .fault →
      exec (.sdRecv 0x00) s = .next { s with
        faultRecord := s.faultRecord ++ [.zeroLengthStream] })

/-- R147: the append, whatever the byte; the new state; the write index inside the buffer. -/
def Obligations.RecvAppendsData : Prop :=
  ∀ (s : State) (b n : Byte), s.sd.state = .waitForData → s.sd.explen = some n →
    exec (.sdRecv b) s = .next { s with
      sd := { state := if s.sd.count + 1 = n.toNat then .waitForCrc else .waitForData
              explen := some n
              buf := s.sd.buf.set s.sd.count b
              count := s.sd.count + 1 }
      responses := s.responses ++
        [{ status := .ok
           state := some (if s.sd.count + 1 = n.toNat then .waitForCrc else .waitForData)
           result := [] }] } ∧
    (s.inv = true → s.sd.count < s.sd.buf.length ∧
      (s.sd.buf.set s.sd.count b).take (s.sd.count + 1) = s.sd.payload ++ [b])

/-- R148, R149: the CRC byte, and any other byte. The checksum is over `sd.buf[0 .. sd.count-1]`. -/
def Obligations.RecvComparesCrc : Prop :=
  ∀ (s : State) (b : Byte), s.sd.state = .waitForCrc →
    (b ≠ checksum (s.sd.buf.take s.sd.count) →
      exec (.sdRecv b) s = .next { s with responses := s.responses ++
        [{ status := .crcError, state := some .waitForCrc, result := [] }] }) ∧
    (b = checksum (s.sd.buf.take s.sd.count) →
      exec (.sdRecv b) s = .next { s with
        sd := { s.sd with state := .payloadReady }
        responses := s.responses ++
          [{ status := .ok, state := some .payloadReady, result := [] }] })

/-- R150 (decision D9): SD_RECV in `PAYLOAD_READY` is the model fault UndefinedFeed, which no step takes out
of the record. -/
def Obligations.RecvAfterReadyIsUndefinedFeed : Prop :=
  (∀ (s : State) (b : Byte), s.sd.state = .payloadReady →
    exec (.sdRecv b) s = .next { s with faultRecord := s.faultRecord ++ [.undefinedFeed] }) ∧
  ∀ s t : State, step s = .next t →
    ModelFault.undefinedFeed ∈ s.faultRecord → ModelFault.undefinedFeed ∈ t.faultRecord

/-- U4: reading `sd.explen` while unwritten "would be `fault`", a model fault that is recorded. Only an
SD_RECV in `WAIT_FOR_DATA` reads it so, and in no state that meets the invariants. That this is a fault
of its own beside the three of R205 is THE MODEL'S READING (log entry 7). -/
def Obligations.UnwrittenExplenIsModelFault : Prop :=
  (∀ (i : Instr) (s : State),
    exec i s = .next { s with faultRecord := s.faultRecord ++ [.explenUnwritten] } ↔
      s.sd.state = .waitForData ∧ s.sd.explen = none ∧ ∃ b, i = .sdRecv b) ∧
  ∀ (i : Instr) (s : State), s.inv = true →
    exec i s ≠ .next { s with faultRecord := s.faultRecord ++ [.explenUnwritten] }

/-- R152 (decisions D10, D24): the payload in `PAYLOAD_READY`, the model fault ResultNotReady elsewhere, no
register written, and the same answer when repeated; the selector. -/
def Obligations.SdResultReadsPayload : Prop :=
  decodeRequest { sel := 0x05, operand := [] } = .ok .sdResult ∧
  ∀ s : State,
    (s.sd.state = .payloadReady →
      exec .sdResult s = .next { s with responses := s.responses ++
        [{ status := .ok, state := some .payloadReady, result := s.sd.buf.take s.sd.count }] } ∧
      runInstrs [.sdResult, .sdResult] s = .next { s with responses := s.responses ++
        [{ status := .ok, state := some .payloadReady, result := s.sd.buf.take s.sd.count },
         { status := .ok, state := some .payloadReady, result := s.sd.buf.take s.sd.count }] }) ∧
    (s.sd.state ≠ .payloadReady →
      exec .sdResult s = .next { s with faultRecord := s.faultRecord ++ [.resultNotReady] })

/-- R142 "each only in the arms shown", R22, R23, R24: the frame of SD_RECV. `sd.explen` changes only in
`WAIT_FOR_LENGTH`, the buffer and the count only in `WAIT_FOR_DATA`, and of the buffer only the byte
at `sd.count`. -/
def Obligations.SdRecvFrame : Prop :=
  ∀ (s t : State) (b : Byte), exec (.sdRecv b) s = .next t →
    t.config = s.config ∧ t.refusalMark = s.refusalMark ∧ t.requests = s.requests ∧
    t.draws = s.draws ∧
    (s.sd.state ≠ .waitForLength → t.sd.explen = s.sd.explen) ∧
    (s.sd.state ≠ .waitForData → t.sd.count = s.sd.count ∧ t.sd.buf = s.sd.buf) ∧
    t.sd.buf.length = s.sd.buf.length ∧
    ∀ k : Nat, k ≠ s.sd.count → t.sd.buf[k]? = s.sd.buf[k]?

/-! ## Rules about the whole machine -/

/-- R133, R104, R152 "State written: none": CHECKSUM, ENCODE, DECODE and SD_RESULT change nothing but the
responses and, for a refusal or a model fault, the mark or the record. -/
def Obligations.ReadOnlyOperationsFrame : Prop :=
  ∀ (i : Instr) (s t : State),
    (∃ ops, i = .checksum ops ∨ i = .encode ops ∨ i = .decode ops) ∨ i = .sdResult →
    exec i s = .next t →
    t.config = s.config ∧ t.sd = s.sd ∧ t.requests = s.requests ∧ t.draws = s.draws ∧
    (i ≠ .sdResult → t.faultRecord = s.faultRecord) ∧
    (i = .sdResult → t.refusalMark = s.refusalMark) ∧
    (t.responses = s.responses ∨ ∃ r, t.responses = s.responses ++ [r])

/-- R133, R31, R253: CHECKSUM, ENCODE and DECODE read only their operand and the constants: in two states
with the same parameters they answer the same, whatever the registers hold, and write none. -/
def Obligations.BulkAnswersIgnoreRegisters : Prop :=
  ∀ (s s' t : State) (i : Instr),
    (∃ ops, i = .checksum ops ∨ i = .encode ops ∨ i = .decode ops) →
    s.config = s'.config → exec i s = .next t →
    t.sd = s.sd ∧ ∃ t', exec i s' = .next t' ∧ t'.sd = s'.sd ∧
      t.responses.drop s.responses.length = t'.responses.drop s'.responses.length

/-- R46, marked by the spec as its own inference: repeating CHECKSUM, ENCODE, DECODE or SD_RESULT gives the
same response. -/
def Obligations.ReadOnlyOperationsRepeat : Prop :=
  ∀ (i : Instr) (s t : State) (r : Response),
    (∃ ops, i = .checksum ops ∨ i = .encode ops ∨ i = .decode ops) ∨ i = .sdResult →
    exec i s = .next t → t.responses = s.responses ++ [r] →
    exec i t = .next { t with responses := t.responses ++ [r] }

/-- R151, R207 (decision D8): a request that ends in an error writes no register; its only effect is the
response. -/
def Obligations.ErrorsChangeNoRegister : Prop :=
  ∀ (i : Instr) (s t : State) (r : Response),
    exec i s = .next t → t.responses = s.responses ++ [r] → r.status ≠ .ok →
    t = { s with responses := s.responses ++ [r] }

/-- R204, marked by the spec as its own inference: which operation raises which error. -/
def Obligations.ErrorsPerOperation : Prop :=
  ∀ (i : Instr) (s t : State) (r : Response),
    exec i s = .next t → t.responses = s.responses ++ [r] →
    match i with
    | .checksum _ => r.status = .ok
    | .encode _ => r.status = .ok ∨ r.status = .lengthError
    | .decode _ => r.status = .ok ∨ r.status = .lengthError ∨ r.status = .headerError ∨
        r.status = .lengthFieldError ∨ r.status = .crcError
    | .sdNew => r.status = .ok
    | .sdRecv _ => r.status = .ok ∨ (r.status = .headerError ∧ s.sd.state = .waitForHeader) ∨
        (r.status = .lengthFieldError ∧ s.sd.state = .waitForLength) ∨
        (r.status = .crcError ∧ s.sd.state = .waitForCrc)
    | .sdResult => r.status = .ok

/-- R205 (decisions D9, D10): a request ends in a model fault, which changes no register and gives no
response, exactly in the three cases; the record is never cleared. `explenUnwritten` (U4, log entry 7)
is none of the three: it comes only where the invariants do not hold. -/
def Obligations.ModelFaultsAreExactlyTheThree : Prop :=
  (∀ (i : Instr) (s : State) (f : ModelFault), s.inv = true ∨ f ≠ .explenUnwritten →
    (exec i s = .next { s with faultRecord := s.faultRecord ++ [f] } ↔
      (f = .undefinedFeed ∧ s.sd.state = .payloadReady ∧ ∃ b, i = .sdRecv b) ∨
      (f = .resultNotReady ∧ s.sd.state ≠ .payloadReady ∧ i = .sdResult) ∨
      (f = .zeroLengthStream ∧ s.sd.state = .waitForLength ∧ i = .sdRecv 0x00 ∧
        s.config.zeroLengthStream = .fault))) ∧
  ∀ s t : State, step s = .next t → s.faultRecord <+: t.faultRecord

/-- R35 (decision D9): the record and the mark are empty and clear at launch and no step takes anything from
them. -/
def Obligations.RecordsAreNeverCleared : Prop :=
  (State.reset.faultRecord = [] ∧ State.reset.refusalMark = false) ∧
  ∀ s t : State, step s = .next t →
    s.faultRecord <+: t.faultRecord ∧ (s.refusalMark = true → t.refusalMark = true)

/-- R29, R30: no step changes the configuration. -/
def Obligations.ConfigurationNeverChanges : Prop :=
  ∀ s t : State, step s = .next t → t.config = s.config

/-- R21: only SD_NEW and SD_RECV write a register, so what any other request leaves is what it found. -/
def Obligations.OnlySdNewAndSdRecvWriteRegisters : Prop :=
  ∀ s t : State, step s = .next t → t.sd ≠ s.sd →
    ∃ (r : Request) (rest : List Request), s.requests = r :: rest ∧
      ((r.sel = 0x03 ∧ r.operand = []) ∨ (r.sel = 0x04 ∧ r.operand.length = 1))

/-- The invariants of R25 with the ranges of R22 and R23 hold at reset, for every choice of the
parameters. -/
def Obligations.ResetMeetsDecoderInvariant : Prop :=
  ∀ cfg : Config, (State.resetWith cfg).inv = true

/-- R25, marked by the spec as its own inference from R140 and R142 to R151: every step from a state that
meets the invariants leaves one that meets them. -/
def Obligations.StepKeepsDecoderInvariant : Prop :=
  ∀ s t : State, s.inv = true → step s = .next t → t.inv = true

/-- R141: every step, from every state, answers a next state: the machine never stops. From a state that
meets the invariants it leaves one that meets them. That a model fault or a refusal is a next state is
THE MODEL'S READING (log entry 3). -/
def Obligations.StepIsTotal : Prop :=
  ∀ s : State, ∃ t, step s = .next t ∧ (s.inv = true → t.inv = true)

/-- R230, R260, R262: a host that keeps its duties, with `ZERO_LENGTH_STREAM = accept` and operands within
the bound, keeps a good run good. -/
def Obligations.DutifulHostStaysGood : Prop :=
  ∀ (s : State) (i : Instr), s.inv = true → s.good = true →
    s.config.zeroLengthStream = .accept → i.wellFormed s.config = true → hostMayIssue s i = true →
    ∃ t, exec i s = .next t ∧ t.good = true ∧ ∃ r, t.responses = s.responses ++ [r]

/-- R33, R23, U5: the unspecified buffer contents are never read. Two states that differ only in them give
the same responses and stay so, whatever requests follow. -/
def Obligations.UnspecifiedBufferIsUnobservable : Prop :=
  ∀ s s' t : State, s.inv = true → s'.inv = true → s.sameView s' → step s = .next t →
    ∃ t', step s' = .next t' ∧ t.sameView t'

/-- R157, the spec's inference from R105 and R147: an accumulator started at `CRC_INIT` by the length arm and
stepped at each data byte holds the value `WAIT_FOR_CRC` compares with. -/
def Obligations.RunningCrcMatchesBuffer : Prop :=
  ∀ (s t : State) (b : Byte), s.inv = true → exec (.sdRecv b) s = .next t →
    (s.sd.state = .waitForLength → checksum t.sd.payload = crcInit) ∧
    (s.sd.state = .waitForData → checksum t.sd.payload = crcStep (checksum s.sd.payload) b)

/-- R155, the spec's inference from R143: a run of bytes other than 0xD5 gives one HeaderError each and
leaves the decoder as it was. -/
def Obligations.HeaderHunting : Prop :=
  ∀ (bs : List Byte) (s : State), s.sd.state = .waitForHeader → (∀ b ∈ bs, b ≠ 0xD5) →
    runFeed bs s = .next { s with
      responses := s.responses ++ bs.map (fun _ =>
        { status := .headerError, state := some .waitForHeader, result := [] }) }

/-- R79 (decision D26): an `sd.feed` is its `sd.recv` requests one after another, whatever their statuses,
and nothing is issued after one that ends in a model fault. -/
def Obligations.FeedIsItsExpansion : Prop :=
  (∀ bs : List Byte, (Line.feed bs).requests = bs.map fun b => { sel := 0x04, operand := [b] }) ∧
  (∀ (bs : List Byte) (s t : State), runInstrs (feedExpansion bs) s = .next t →
    t.faultRecord = s.faultRecord → runFeed bs s = .next t) ∧
  ∀ (bs : List Byte) (b : Byte) (rest : List Byte) (s t : State) (f : ModelFault),
    runInstrs (feedExpansion bs) s = .next t → t.faultRecord = s.faultRecord →
    exec (.sdRecv b) t = .next { t with faultRecord := t.faultRecord ++ [f] } →
    runFeed (bs ++ b :: rest) s = .next { t with faultRecord := t.faultRecord ++ [f] }

/-- R154, R156, the spec's inference from R125, R140, R142 and R152: the machine, given SD_NEW, the bytes of
any packet DECODE accepts whose length byte is at most `MAX_PAYLOAD`, and SD_RESULT, answers OK to
every request, reaches `PAYLOAD_READY` at the last byte and not before, and answers exactly DECODE's
payload. -/
def Obligations.IncrementalMatchesBulk : Prop :=
  ∀ (s u : State) (p q : List Byte),
    exec (.decode p) u = .next { u with responses := u.responses ++
      [{ status := .ok, state := none, result := q }] } →
    q.length ≤ s.config.maxPayload.val →
    s.requests = ([Instr.sdNew] ++ p.map Instr.sdRecv ++ [Instr.sdResult]).map encodeRequest →
    ∃ (t : State) (tags : List StateTag),
      Sys2Proof.core.run (p.length + 2) s = .next t ∧
      tags.length + 1 = p.length ∧ (∀ g ∈ tags, g ≠ .payloadReady) ∧
      t.responses = s.responses ++
        [{ status := .ok, state := some .waitForHeader, result := [] }] ++
        (tags ++ [StateTag.payloadReady]).map (fun g => { status := .ok, state := some g, result := [] }) ++
        [{ status := .ok, state := some .payloadReady, result := q }] ∧
      t.requests = [] ∧ t.faultRecord = s.faultRecord ∧ t.refusalMark = s.refusalMark

/-! ## The host contract (outside the block) -/

/-- R234: at every point of a SendCommand at most `MAX_RETRY` attempts have been made, the wire shows whole
copies of the packet, one per attempt when the stream's write, flush and read never fail, and
TransmissionError means the whole budget was used. That an attempt whose write fails counts and puts
nothing on the wire is THE MODEL'S CHOICE (log entry 14). -/
def Obligations.SendCommandAttemptBudget : Prop :=
  ∀ (hc : HostConfig) (payload : List Byte) (block : State) (es : List LinkEvent) (t : Transport),
    t = (sendCommand hc payload block).moves hc es →
    t.attempts ≤ hc.maxRetry ∧
    (∃ k, k ≤ t.attempts ∧ t.wire = (List.replicate k t.packet).flatten ∧
      (LinkEvent.ioFailure ∉ es → k = t.attempts)) ∧
    (t.phase = .ended .transmissionError → t.attempts = hc.maxRetry)

/-- R231 (decision D30): an oversize payload makes SendCommand surface LengthError with no attempt, whatever
the link then shows. -/
def Obligations.OversizeSendMakesNoAttempt : Prop :=
  ∀ (hc : HostConfig) (payload : List Byte) (block : State) (es : List LinkEvent),
    bulkFits block.config.maxBulkInput payload.length = true →
    block.config.maxPayload.val < payload.length →
    ((sendCommand hc payload block).moves hc es).phase = .ended .lengthError ∧
    ((sendCommand hc payload block).moves hc es).attempts = 0 ∧
    ((sendCommand hc payload block).moves hc es).wire = []

/-- R235: an attempt that receives a well-formed response, byte by byte, ends with its payload, having written
the packet once; whatever the link shows later, the host and the block it drives stay as they are. -/
def Obligations.AttemptReturnsResponsePayload : Prop :=
  ∀ (hc : HostConfig) (t : Transport) (q : List Byte) (now : Nat) (later : List LinkEvent),
    t.phase = .starting → 1 ≤ q.length → q.length ≤ t.block.config.maxPayload.val →
    let es := [.written now] ++
      ([0xD5, BitVec.ofNat 8 q.length] ++ q ++ [checksum q]).map LinkEvent.byte
    (t.moves hc es).phase = .ended (.payload q) ∧
    (t.moves hc es).attempts = t.attempts + 1 ∧ (t.moves hc es).wire = t.wire ++ t.packet ∧
    t.moves hc (es ++ later) = t.moves hc es

/-- R233: with no byte available the attempt fails strictly after `TIMEOUT` from its start, and otherwise
polls on; the log's unit is milliseconds (log entry 16). -/
def Obligations.TimeoutIsStrictAndFromStart : Prop :=
  ∀ (hc : HostConfig) (t : Transport) (start now : Nat), t.phase = .polling start →
    (now ≤ start + hc.timeout → t.move hc (.noByte now) = t) ∧
    (start + hc.timeout < now → t.attempts < hc.maxRetry →
      t.move hc (.noByte now) = { t with phase := .starting }) ∧
    (start + hc.timeout < now → hc.maxRetry ≤ t.attempts →
      t.move hc (.noByte now) = { t with phase := .ended .transmissionError })

/-- R236, C1: the payload has 25 bytes, the opcode first, and each little-endian field reads back as the value
put in. -/
def Obligations.MovePayloadLayout : Prop :=
  ∀ (op : Byte) (pos : Vector (BitVec 32) 5) (rate : BitVec 32),
    (qepPayload op pos rate).length = 25 ∧ (qepPayload op pos rate)[0]? = some op ∧
    (∀ k : Fin 5, ∃ b0 b1 b2 b3 : Byte,
      ((qepPayload op pos rate).drop (1 + 4 * k.val)).take 4 = [b0, b1, b2, b3] ∧
      b3 ++ b2 ++ b1 ++ b0 = pos[k]) ∧
    ∃ b0 b1 b2 b3 : Byte,
      ((qepPayload op pos rate).drop 21).take 4 = [b0, b1, b2, b3] ∧ b3 ++ b2 ++ b1 ++ b0 = rate

/-- R237, R238: when the stream's write and flush return, Move has written one packet whose DECODE is its
payload, and touched no register of the block. -/
def Obligations.MoveWritesDecodablePacket : Prop :=
  ∀ (hc : HostConfig) (pos : Vector (BitVec 32) 5) (rate : BitVec 32) (block : State),
    block.config.maxBulkInput = none → 25 ≤ block.config.maxPayload.val →
    (moveCommand hc pos rate .returned block).block.sd = block.sd ∧
    (moveCommand hc pos rate .returned block).ending = .written ∧
    ∀ u : State, u.config.maxBulkInput = none →
      exec (.decode (moveCommand hc pos rate .returned block).wire) u = .next { u with responses := u.responses ++
        [{ status := .ok, state := none, result := qepPayload hc.qepOpcode pos rate }] }

/-- R237, R238: Move reports a failure of transmission exactly when the stream's write or flush raises. It
frames with one ENCODE, writes once, reads nothing and does not retry, so the block shows one response
more and no other change. With a `MAX_PAYLOAD` below 25 it writes nothing (THE MODEL'S CHOICE, log entry 17);
how much of the packet a raising write has put on the stream is open (log entry 14). -/
def Obligations.MoveReportsOnlyStreamFailures : Prop :=
  ∀ (hc : HostConfig) (pos : Vector (BitVec 32) 5) (rate : BitVec 32) (stream : WriteOutcome)
    (block : State), block.config.maxBulkInput = none →
    let m := moveCommand hc pos rate stream block
    (25 ≤ block.config.maxPayload.val →
      (m.ending = .streamError ↔ stream ≠ .returned) ∧ (m.ending = .written ↔ stream = .returned) ∧
      (stream = .returned → m.wire = m.packet) ∧ (stream = .flushRaised → m.wire = m.packet) ∧
      (∀ sent, stream = .writeRaised sent → m.wire = m.packet.take sent) ∧
      m.packet.length = 28 ∧
      m.block = { block with responses := block.responses ++
        [{ status := .ok, state := none, result := m.packet }] }) ∧
    (block.config.maxPayload.val < 25 → m.ending = .lengthError ∧ m.wire = [])
end

