-- ==== Sys2Proof/Laws/Decode.lean ====
section
/-!
SUPPORT. The decoder, selector by selector: how the request of a selector byte decodes, for any
operand.
-/

namespace Sys2Proof

@[simp] theorem decodeRequest_sel0 (ops : List Byte) :
    decodeRequest { sel := 0#8, operand := ops } = .ok (.checksum ops) := by
  simp [decodeRequest]
@[simp] theorem decodeRequest_sel1 (ops : List Byte) :
    decodeRequest { sel := 1#8, operand := ops } = .ok (.encode ops) := by
  simp [decodeRequest]
@[simp] theorem decodeRequest_sel2 (ops : List Byte) :
    decodeRequest { sel := 2#8, operand := ops } = .ok (.decode ops) := by
  simp [decodeRequest]
@[simp] theorem decodeRequest_sel3 (ops : List Byte) :
    decodeRequest { sel := 3#8, operand := ops } = emptyOperand .sdNew ops := by
  simp [decodeRequest]
@[simp] theorem decodeRequest_sel4 (ops : List Byte) :
    decodeRequest { sel := 4#8, operand := ops } = oneByteOperand ops := by
  simp [decodeRequest]
@[simp] theorem decodeRequest_sel5 (ops : List Byte) :
    decodeRequest { sel := 5#8, operand := ops } = emptyOperand .sdResult ops := by
  simp [decodeRequest]
@[simp] theorem decodeRequest_sel6 (ops : List Byte) :
    decodeRequest { sel := 6#8, operand := ops } = .error .reservedSelector := by
  simp [decodeRequest]
@[simp] theorem decodeRequest_sel7 (ops : List Byte) :
    decodeRequest { sel := 7#8, operand := ops } = .error .reservedSelector := by
  simp [decodeRequest]

end Sys2Proof
end

