-- ==== Sys2Proof/Laws/State.lean ====
section
/-!
SUPPORT. What each named operation does to each field of the state, one lemma each, true by unfolding
the record update. Later proofs cite these and never unfold an update.
-/

namespace Sys2Proof.Machine

variable (s : State)

@[simp] theorem State.setSd_config (d : StreamDecoder) : (s.setSd d).config = s.config := rfl
@[simp] theorem State.setSd_sd (d : StreamDecoder) : (s.setSd d).sd = d := rfl
@[simp] theorem State.setSd_faultRecord (d : StreamDecoder) : (s.setSd d).faultRecord = s.faultRecord := rfl
@[simp] theorem State.setSd_refusalMark (d : StreamDecoder) : (s.setSd d).refusalMark = s.refusalMark := rfl
@[simp] theorem State.setSd_requests (d : StreamDecoder) : (s.setSd d).requests = s.requests := rfl
@[simp] theorem State.setSd_responses (d : StreamDecoder) : (s.setSd d).responses = s.responses := rfl
@[simp] theorem State.setSd_draws (d : StreamDecoder) : (s.setSd d).draws = s.draws := rfl

@[simp] theorem State.respond_config (st : Status) (tag : Option StateTag) (result : List Byte) : (s.respond st tag result).config = s.config := rfl
@[simp] theorem State.respond_sd (st : Status) (tag : Option StateTag) (result : List Byte) : (s.respond st tag result).sd = s.sd := rfl
@[simp] theorem State.respond_faultRecord (st : Status) (tag : Option StateTag) (result : List Byte) : (s.respond st tag result).faultRecord = s.faultRecord := rfl
@[simp] theorem State.respond_refusalMark (st : Status) (tag : Option StateTag) (result : List Byte) : (s.respond st tag result).refusalMark = s.refusalMark := rfl
@[simp] theorem State.respond_requests (st : Status) (tag : Option StateTag) (result : List Byte) : (s.respond st tag result).requests = s.requests := rfl
@[simp] theorem State.respond_responses (st : Status) (tag : Option StateTag) (result : List Byte) : (s.respond st tag result).responses = s.responses ++ [{ status := st, state := tag, result := result }] := rfl
@[simp] theorem State.respond_draws (st : Status) (tag : Option StateTag) (result : List Byte) : (s.respond st tag result).draws = s.draws := rfl

@[simp] theorem State.recordFault_config (f : ModelFault) : (s.recordFault f).config = s.config := rfl
@[simp] theorem State.recordFault_sd (f : ModelFault) : (s.recordFault f).sd = s.sd := rfl
@[simp] theorem State.recordFault_faultRecord (f : ModelFault) : (s.recordFault f).faultRecord = s.faultRecord ++ [f] := rfl
@[simp] theorem State.recordFault_refusalMark (f : ModelFault) : (s.recordFault f).refusalMark = s.refusalMark := rfl
@[simp] theorem State.recordFault_requests (f : ModelFault) : (s.recordFault f).requests = s.requests := rfl
@[simp] theorem State.recordFault_responses (f : ModelFault) : (s.recordFault f).responses = s.responses := rfl
@[simp] theorem State.recordFault_draws (f : ModelFault) : (s.recordFault f).draws = s.draws := rfl

@[simp] theorem State.refuse_config : (s.refuse).config = s.config := rfl
@[simp] theorem State.refuse_sd : (s.refuse).sd = s.sd := rfl
@[simp] theorem State.refuse_faultRecord : (s.refuse).faultRecord = s.faultRecord := rfl
@[simp] theorem State.refuse_refusalMark : (s.refuse).refusalMark = true := rfl
@[simp] theorem State.refuse_requests : (s.refuse).requests = s.requests := rfl
@[simp] theorem State.refuse_responses : (s.refuse).responses = s.responses := rfl
@[simp] theorem State.refuse_draws : (s.refuse).draws = s.draws := rfl

@[simp] theorem State.setRequests_config (rs : List Request) : (s.setRequests rs).config = s.config := rfl
@[simp] theorem State.setRequests_sd (rs : List Request) : (s.setRequests rs).sd = s.sd := rfl
@[simp] theorem State.setRequests_faultRecord (rs : List Request) : (s.setRequests rs).faultRecord = s.faultRecord := rfl
@[simp] theorem State.setRequests_refusalMark (rs : List Request) : (s.setRequests rs).refusalMark = s.refusalMark := rfl
@[simp] theorem State.setRequests_requests (rs : List Request) : (s.setRequests rs).requests = rs := rfl
@[simp] theorem State.setRequests_responses (rs : List Request) : (s.setRequests rs).responses = s.responses := rfl
@[simp] theorem State.setRequests_draws (rs : List Request) : (s.setRequests rs).draws = s.draws := rfl

@[simp] theorem State.nextDraw_config : (s.nextDraw).config = s.config := rfl
@[simp] theorem State.nextDraw_sd : (s.nextDraw).sd = s.sd := rfl
@[simp] theorem State.nextDraw_faultRecord : (s.nextDraw).faultRecord = s.faultRecord := rfl
@[simp] theorem State.nextDraw_refusalMark : (s.nextDraw).refusalMark = s.refusalMark := rfl
@[simp] theorem State.nextDraw_requests : (s.nextDraw).requests = s.requests := rfl
@[simp] theorem State.nextDraw_responses : (s.nextDraw).responses = s.responses := rfl
@[simp] theorem State.nextDraw_draws : (s.nextDraw).draws = s.draws + 1 := rfl

variable (d : StreamDecoder) (k : Nat) (v : Byte)

@[simp] theorem StreamDecoder.bufWrite_state : (d.bufWrite k v).state = d.state := rfl
@[simp] theorem StreamDecoder.bufWrite_explen : (d.bufWrite k v).explen = d.explen := rfl
@[simp] theorem StreamDecoder.bufWrite_count : (d.bufWrite k v).count = d.count := rfl
@[simp] theorem StreamDecoder.bufWrite_buf : (d.bufWrite k v).buf = d.buf.set k v := rfl

@[simp] theorem appendByte_state : (appendByte v d).state = d.state := rfl
@[simp] theorem appendByte_explen : (appendByte v d).explen = d.explen := rfl
@[simp] theorem appendByte_count : (appendByte v d).count = d.count + 1 := rfl
@[simp] theorem appendByte_buf : (appendByte v d).buf = d.buf.set d.count v := rfl

variable (cfg : Config) (draw : Nat)

@[simp] theorem freshDecoder_state : (freshDecoder cfg draw).state = .waitForHeader := rfl
@[simp] theorem freshDecoder_explen : (freshDecoder cfg draw).explen = none := rfl
@[simp] theorem freshDecoder_count : (freshDecoder cfg draw).count = 0 := rfl
@[simp] theorem freshDecoder_buf :
    (freshDecoder cfg draw).buf = freeBuf draw cfg.maxPayload.val := rfl

@[simp] theorem StreamDecoder.reset_state : (StreamDecoder.reset cfg).state = .waitForHeader := rfl
@[simp] theorem StreamDecoder.reset_explen : (StreamDecoder.reset cfg).explen = none := rfl
@[simp] theorem StreamDecoder.reset_count : (StreamDecoder.reset cfg).count = 0 := rfl
@[simp] theorem State.resetWith_config : (State.resetWith cfg).config = cfg := rfl
@[simp] theorem State.resetWith_sd : (State.resetWith cfg).sd = StreamDecoder.reset cfg := rfl

end Sys2Proof.Machine
end

