-- ==== Sys2Proof/Laws/Ops.lean ====
section
/-!
SUPPORT. One lemma per shared operation that says everything it can do: the payload buffer, the bulk
reply, the transition of SD_RECV and its end. Provers cite these instead of unfolding.
-/

namespace Sys2Proof.Machine

/-! The payload buffer. -/

@[simp] theorem freeBuf_length (draw n : Nat) : (freeBuf draw n).length = n := by
  simp [freeBuf]

theorem bufWrite_length (d : StreamDecoder) (k : Nat) (v : Byte) :
    (d.bufWrite k v).buf.length = d.buf.length := by simp

theorem payload_length (d : StreamDecoder) (h : d.count ≤ d.buf.length) :
    d.payload.length = d.count := by
  simp [StreamDecoder.payload, h]

/-- With room in the buffer, the append extends the payload by the byte. -/
theorem appendByte_payload (d : StreamDecoder) (b : Byte) (h : d.count < d.buf.length) :
    (appendByte b d).payload = d.payload ++ [b] := by
  simp [StreamDecoder.payload, List.take_add_one, h, List.take_set_of_le]

theorem payload_of_count_zero (d : StreamDecoder) (h : d.count = 0) : d.payload = [] := by
  simp [StreamDecoder.payload, h]

@[simp] theorem freshDecoder_payload (cfg : Config) (draw : Nat) :
    (freshDecoder cfg draw).payload = [] := payload_of_count_zero _ rfl

@[simp] theorem StreamDecoder.reset_payload (cfg : Config) :
    (StreamDecoder.reset cfg).payload = [] := payload_of_count_zero _ rfl

/-- A register write that keeps the buffer and the count keeps the payload. -/
theorem payload_mk (tag : StateTag) (e : Option Byte) (d : StreamDecoder) :
    StreamDecoder.payload { d with state := tag, explen := e } = d.payload := rfl

theorem payload_mk_state (tag : StateTag) (d : StreamDecoder) :
    StreamDecoder.payload { d with state := tag } = d.payload := rfl

/-! Bulk operands and replies. -/

theorem bulkReply_accepted (s : State) (operand : List Byte) (reply : Status × List Byte)
    (h : bulkFits s.config.maxBulkInput operand.length = true) :
    bulkReply s operand reply = s.respond reply.1 none reply.2 := by
  simp [bulkReply, bulkAccepted, h]

theorem bulkReply_refused (s : State) (operand : List Byte) (reply : Status × List Byte)
    (h : bulkFits s.config.maxBulkInput operand.length = false) :
    bulkReply s operand reply = s.refuse := by
  simp [bulkReply, bulkAccepted, h]

/-- Everything a bulk reply can do. -/
theorem bulkReply_cases (s : State) (operand : List Byte) (reply : Status × List Byte) :
    bulkReply s operand reply = s.respond reply.1 none reply.2 ∨
      bulkReply s operand reply = s.refuse := by
  unfold bulkReply
  split
  · exact .inl rfl
  · exact .inr rfl

/-- `encodePayload` errs or frames. -/
theorem encodePayload_cases (cfg : Config) (p : List Byte) :
    (cfg.maxPayload.val < p.length ∧ encodePayload cfg p = (.lengthError, [])) ∨
      (p.length ≤ cfg.maxPayload.val ∧ encodePayload cfg p = (.ok, frame p)) := by
  unfold encodePayload
  split
  · exact .inl ⟨‹_›, rfl⟩
  · exact .inr ⟨by omega, rfl⟩

/-- On an error `decodePacket` gives no bytes. -/
theorem decodePacket_error_result (p : List Byte) (h : (decodePacket p).1 ≠ .ok) :
    (decodePacket p).2 = [] := by
  revert h
  unfold decodePacket
  repeat' split
  all_goals simp

/-! The transition of SD_RECV. -/

/-- Everything one SD_RECV can do to the registers: keep them with an error, take one of the five
successful moves, or record a model fault (which one: `recvByte_modelFault`). -/
theorem recvByte_cases (cfg : Config) (b : Byte) (d : StreamDecoder) :
    (∃ st, st ≠ .ok ∧ recvByte cfg b d = .done st d) ∨
    (d.state = .waitForHeader ∧ recvByte cfg b d = .done .ok { d with state := .waitForLength }) ∨
    (d.state = .waitForLength ∧ b.toNat ≤ cfg.maxPayload.val ∧
      recvByte cfg b d = .done .ok { d with
        explen := some b, state := if b = 0x00 then .waitForCrc else .waitForData }) ∨
    (∃ n, d.state = .waitForData ∧ d.explen = some n ∧
      recvByte cfg b d = .done .ok { appendByte b d with
        state := if d.count + 1 = n.toNat then .waitForCrc else .waitForData }) ∨
    (d.state = .waitForCrc ∧ b = checksum d.payload ∧
      recvByte cfg b d = .done .ok { d with state := .payloadReady }) ∨
    (∃ f, recvByte cfg b d = .modelFault f) := by
  rcases h : d.state with _ | _ | _ | _ | _ <;> simp only [recvByte, h]
  · unfold recvHeader
    split <;> simp
  · unfold recvLength
    split
    · simp
    · split
      · split <;> simp_all
      · simp_all
  · unfold recvData
    split
    · simp_all
    · next n hn =>
      split <;> simp_all [appendByte, StreamDecoder.bufWrite]
  · unfold recvCrc
    split
    · simp
    · simp_all
  · simp

/-- Which model fault one SD_RECV records, and where. -/
theorem recvByte_modelFault (cfg : Config) (b : Byte) (d : StreamDecoder) (f : ModelFault)
    (h : recvByte cfg b d = .modelFault f) :
    (f = .undefinedFeed ∧ d.state = .payloadReady) ∨
    (f = .zeroLengthStream ∧ d.state = .waitForLength ∧ b = 0x00 ∧ cfg.zeroLengthStream = .fault) ∨
    (f = .explenUnwritten ∧ d.state = .waitForData ∧ d.explen = none) := by
  revert h
  rcases hs : d.state with _ | _ | _ | _ | _ <;> simp only [recvByte, hs]
  · unfold recvHeader
    split <;> simp
  · unfold recvLength
    repeat' split
    all_goals simp_all
  · unfold recvData
    repeat' split
    all_goals simp_all
  · unfold recvCrc
    split <;> simp
  · simp_all

@[simp] theorem finishRecv_done (s : State) (st : Status) (d : StreamDecoder) :
    finishRecv s (.done st d) = (s.setSd d).respond st (some d.state) [] := rfl
@[simp] theorem finishRecv_modelFault (s : State) (f : ModelFault) :
    finishRecv s (.modelFault f) = s.recordFault f := rfl

/-- What the end of an SD_RECV leaves: a response, or a recorded model fault. -/
theorem finishRecv_cases (s : State) (e : RecvEnd) :
    (∃ st d, e = .done st d ∧ finishRecv s e = (s.setSd d).respond st (some d.state) []) ∨
      (∃ f, e = .modelFault f ∧ finishRecv s e = s.recordFault f) := by
  cases e with
  | done st d => exact .inl ⟨st, d, rfl, rfl⟩
  | modelFault f => exact .inr ⟨f, rfl, rfl⟩

/-! The CRC table. -/

theorem crcTable_length : crcTable.length = 256 := by decide +kernel

end Sys2Proof.Machine
end

