-- ==== Sys2Proof/Laws/PerInstr.lean ====
section
/-!
SUPPORT. A fact about every operation as text: its request's selector lies in the encoded range of
spec/30_encoding.md R71, bits 7:3 zero and bits 2:0 below the reserved 110 and 111.
-/

/-- R71: `sel[7:3]` is 00000 and `sel[2:0]` is no reserved code. -/
def Sys2Proof.Laws.Selector.Statement (i : Sys2Proof.Instr) : Prop :=
  (Sys2Proof.encodeRequest i).sel.extractLsb' 3 5 = 0 ∧
    ((Sys2Proof.encodeRequest i).sel.extractLsb' 0 3).toNat < 6

theorem Sys2Proof.Laws.Selector.checksum (data : List Sys2Proof.Byte) :
    Sys2Proof.Laws.Selector.Statement (.checksum data) := by
  simp [Statement, Sys2Proof.encodeRequest]

theorem Sys2Proof.Laws.Selector.encode (payload : List Sys2Proof.Byte) :
    Sys2Proof.Laws.Selector.Statement (.encode payload) := by
  simp [Statement, Sys2Proof.encodeRequest]

theorem Sys2Proof.Laws.Selector.decode (packet : List Sys2Proof.Byte) :
    Sys2Proof.Laws.Selector.Statement (.decode packet) := by
  simp [Statement, Sys2Proof.encodeRequest]

theorem Sys2Proof.Laws.Selector.sdNew :
    Sys2Proof.Laws.Selector.Statement .sdNew := by
  simp [Statement, Sys2Proof.encodeRequest]

theorem Sys2Proof.Laws.Selector.sdRecv (b : Sys2Proof.Byte) :
    Sys2Proof.Laws.Selector.Statement (.sdRecv b) := by
  simp [Statement, Sys2Proof.encodeRequest]

theorem Sys2Proof.Laws.Selector.sdResult :
    Sys2Proof.Laws.Selector.Statement .sdResult := by
  simp [Statement, Sys2Proof.encodeRequest]
end

