-- ==== Sys2Proof/Tests/Slice0.lean ====
section
/-!
SUPPORT. Tests of single requests, with expected values from spec/95_test_vectors.md or worked out from
the rules, and for each statement with premises a witness: concrete states and operands that meet all of
them together (`test_witness_<statement>`; a statement with several clauses has one for each).
-/

namespace Sys2Proof.Machine.Tests

-- One theorem at a time: each kernel evaluation waits for the ones before it, and holds a thread meanwhile.
set_option Elab.async false

/-- Parameters small enough to reach every boundary: 4 payload bytes, operands of at most 9 bytes. -/
def small : Config := { maxPayload := 4, zeroLengthStream := .accept, maxBulkInput := some 9 }

/-- A state of the small block with these registers. -/
def stateAt (tag : StateTag) (e : Option Byte) (buf : List Byte) (count : Nat) : State :=
  (State.resetWith small).setSd { state := tag, explen := e, buf, count }

/-- The same with `ZERO_LENGTH_STREAM = fault`. -/
def faulty (s : State) : State :=
  { s with config := { s.config with zeroLengthStream := .fault } }

def onHeader : State := stateAt .waitForHeader none [0, 0, 0, 0] 0
def onLength : State := stateAt .waitForLength none [0, 0, 0, 0] 0
def onData : State := stateAt .waitForData (some 2) [0x01, 0, 0, 0] 1
def onCrc : State := stateAt .waitForCrc (some 1) [0x05, 0, 0, 0] 1
def onReady : State := stateAt .payloadReady (some 1) [0x05, 0, 0, 0] 1

/-- The next state's view by `f`, when there is one. -/
def seen {α : Type} (f : State → α) (o : Host.Outcome State Fault Refusal) : Option α :=
  match o with
  | .next t => some (f t)
  | .fault _ => none
  | .refused _ => none

def answer (status : Status) (tag : Option StateTag) (result : List Byte) : Option (List Response) :=
  some [{ status, state := tag, result }]

/-! ## Well-formedness: an ill-formed term for each check -/

theorem test_wellFormed_checksum_over_bound :
    (Instr.checksum (List.replicate 10 0)).wellFormed small = false := by decide
theorem test_wellFormed_encode_over_bound :
    (Instr.encode (List.replicate 10 0)).wellFormed small = false := by decide
theorem test_wellFormed_decode_over_bound :
    (Instr.decode (List.replicate 10 0)).wellFormed small = false := by decide
theorem test_wellFormed_at_bound :
    (Instr.checksum (List.replicate 9 0)).wellFormed small = true := by decide

/-! ## Decoding: words written out bit by bit from R71 (selector in bits 7..0, then the operand) -/

theorem test_decode_checksum : decodeTableWord 8 0b00000000 = some (.checksum []) := by decide +kernel
theorem test_decode_encode :
    decodeTableWord 24 0b000000100000000100000001 = some (.encode [0x01, 0x02]) := by decide +kernel
theorem test_decode_decode : decodeTableWord 8 0b00000010 = some (.decode []) := by decide +kernel
theorem test_decode_sdNew : decodeTableWord 8 0b00000011 = some .sdNew := by decide +kernel
theorem test_decode_sdRecv :
    decodeTableWord 16 0b0011111100000100 = some (.sdRecv 0x3F) := by decide +kernel
theorem test_decode_sdRecv_operand_without_bits :
    decodeTableWord 8 0b00000100 = some (.sdRecv 0x00) := by decide +kernel
theorem test_decode_sdResult : decodeTableWord 8 0b00000101 = some .sdResult := by decide +kernel
theorem test_decode_reserved_6 : decodeTableWord 8 0b00000110 = none := by decide +kernel
theorem test_decode_reserved_7 : decodeTableWord 8 0b00000111 = none := by decide +kernel
theorem test_decode_high_bits : decodeTableWord 8 0b00001000 = none := by decide +kernel
theorem test_decode_sdNew_with_operand : decodeTableWord 16 0b0000000000000011 = none := by
  decide +kernel

/-! ## Single requests (vectors of spec/95_test_vectors.md) -/

/-- V-CRC7. -/
theorem test_checksum_order :
    seen State.responses (exec (.checksum [0x01, 0x02]) State.reset) = answer .ok none [0x78] := by
  decide +kernel
/-- V-CRC14, the catalogue check value. -/
theorem test_checksum_check_value :
    seen State.responses
      (exec (.checksum [0x31, 0x32, 0x33, 0x34, 0x35, 0x36, 0x37, 0x38, 0x39]) State.reset) =
      answer .ok none [0xA1] := by decide +kernel
/-- V-E7. -/
theorem test_encode_header_bytes_inside :
    seen State.responses (exec (.encode [0xD5, 0xD5]) State.reset) =
      answer .ok none [0xD5, 0x02, 0xD5, 0xD5, 0xCF] := by decide +kernel
/-- V-E6. -/
theorem test_encode_33_bytes :
    seen State.responses (exec (.encode (List.replicate 33 0)) State.reset) =
      answer .lengthError none [] := by decide +kernel
/-- V-D7: the header is reported though length and CRC are wrong too. -/
theorem test_decode_reports_first_error :
    seen State.responses (exec (.decode [0xD4, 0x02, 0x01, 0x5F]) State.reset) =
      answer .headerError none [] := by decide +kernel
/-- V-D15: no maximum check in DECODE. -/
theorem test_decode_33_byte_payload :
    seen State.responses (exec (.decode ([0xD5, 0x21] ++ List.replicate 34 0)) State.reset) =
      answer .ok none (List.replicate 33 0) := by decide +kernel
/-- SD_NEW after a CRCError (example of R140). -/
theorem test_sdNew_registers :
    seen (fun t => t.sd.specified) (exec .sdNew onCrc) = some (.waitForHeader, none, 0, []) := by
  decide +kernel
/-- V-S10: the fault record survives SD_NEW. -/
theorem test_sdNew_keeps_fault_record :
    seen State.faultRecord (exec .sdNew (onReady.recordFault .undefinedFeed)) =
      some [.undefinedFeed] := by decide +kernel
/-- The last data byte of V-S1. -/
theorem test_sdRecv_last_data_byte :
    seen (fun t => t.sd.specified) (exec (.sdRecv 0x02) onData) =
      some (.waitForCrc, some 2, 2, [0x01, 0x02]) := by decide +kernel
/-- V-S4: the CRC byte after the decoder kept its state. -/
theorem test_sdRecv_crc_byte :
    seen (fun t => t.sd.state) (exec (.sdRecv 0x3F) onCrc) = some .payloadReady := by decide +kernel
/-- V-S10. -/
theorem test_sdResult_payload :
    seen State.responses (exec .sdResult onReady) = answer .ok (some .payloadReady) [0x05] := by
  decide +kernel
/-- V-S11. -/
theorem test_sdResult_too_early :
    seen State.faultRecord (exec .sdResult onLength) = some [.resultNotReady] := by decide +kernel

/-- A table word runs as the first request after reset. -/
theorem test_fetchWord_runs :
    seen State.responses (step (State.reset.withFetchWord 16 0xD504)) =
      answer .ok (some .waitForLength) [] := by decide +kernel
/-- R78: the written form of a request. -/
theorem test_render_feed : (Line.feed [0xD5, 0x01]).render = "sd.feed [D5, 01]" := by decide +kernel
/-- V-M1, with its opcode 0x8B. -/
theorem test_move_packet :
    (moveCommand { qepOpcode := 0x8B, ioFailurePolicy := .retry } #v[1, 2, 3, 4, 5] 6 .returned
      State.reset).wire =
      [0xD5, 0x19, 0x8B, 0x01, 0, 0, 0, 0x02, 0, 0, 0, 0x03, 0, 0, 0, 0x04, 0, 0, 0, 0x05, 0, 0, 0,
       0x06, 0, 0, 0, 0xC7] := by decide +kernel

/-! ## Witnesses -/

/-- Every sample register state below meets the invariants of R25. -/
theorem test_samples_meet_invariant :
    onHeader.inv = true ∧ onLength.inv = true ∧ onData.inv = true ∧ onCrc.inv = true ∧
      onReady.inv = true := by decide +kernel

theorem test_witness_SelectorTableDecodes :
    8 ≤ (0x08 : Byte).toNat ∧ 8 ≤ (0xFF : Byte).toNat ∧ ([0x00] : List Byte) ≠ [] ∧
      ([] : List Byte).length ≠ 1 ∧ ([0x00, 0x00] : List Byte).length ≠ 1 := by decide
theorem test_witness_StepRunsDecodedRequest :
    (onHeader.setRequests [{ sel := 0x03, operand := [] }]).requests = [{ sel := 0x03, operand := [] }] ∧
      decodeRequest { sel := 0x03, operand := [] } = .ok .sdNew := ⟨rfl, by simp [decodeRequest, emptyOperand]⟩
theorem test_witness_IdleStepKeepsState : onHeader.requests = [] := by decide
/-- One request for each of the five clauses of R75, at its boundary; a pending queue holds each. -/
theorem test_witness_IllegalRequestIsRefused :
    8 ≤ (0x08 : Byte).toNat ∧
      illegalRequest { sel := 0x08, operand := [] } = true ∧
      illegalRequest { sel := 0x06, operand := [] } = true ∧
      illegalRequest { sel := 0x07, operand := [] } = true ∧
      illegalRequest { sel := 0x03, operand := [0] } = true ∧
      illegalRequest { sel := 0x05, operand := [0] } = true ∧
      illegalRequest { sel := 0x04, operand := [] } = true ∧
      illegalRequest { sel := 0x04, operand := [0, 0] } = true ∧
      (onHeader.setRequests [{ sel := 0x08, operand := [] }]).requests =
        [{ sel := 0x08, operand := [] }] := by decide +kernel
/-- A request that is refused for its length and one that is not. -/
theorem test_witness_RefusalsAreExactlyTheThreeKinds :
    overBulkRequest small { sel := 0x02, operand := List.replicate 10 0 } = true ∧
      overBulkRequest small { sel := 0x02, operand := List.replicate 9 0 } = false ∧
      illegalRequest { sel := 0x02, operand := List.replicate 9 0 } = false ∧
      (onHeader.setRequests [{ sel := 0x02, operand := [] }]).requests =
        [{ sel := 0x02, operand := [] }] ∧
      seen State.refusalMark (step (onHeader.refuse.setRequests [{ sel := 0x03, operand := [] }])) =
        some true := by decide +kernel
theorem test_witness_BulkBoundRefuses :
    onHeader.config.maxBulkInput = some 9 ∧ 9 < (List.replicate 10 (0 : Byte)).length := by decide
theorem test_witness_StatusAndTagCodes : 5 ≤ (5 : BitVec 3).toNat ∧ 5 ≤ (7 : BitVec 3).toNat := by
  decide
/-- An answered request of each operation. -/
theorem test_witness_ResponseFieldsPerOperation :
    (∃ t r, exec (.checksum [0x01]) onHeader = .next t ∧ t.responses = onHeader.responses ++ [r]) ∧
    (∃ t r, exec (.encode [0x01]) onHeader = .next t ∧ t.responses = onHeader.responses ++ [r]) ∧
    (∃ t r, exec (.decode [0x01]) onHeader = .next t ∧ t.responses = onHeader.responses ++ [r]) ∧
    (∃ t r, exec .sdNew onHeader = .next t ∧ t.responses = onHeader.responses ++ [r]) ∧
    (∃ t r, exec (.sdRecv 0xD5) onHeader = .next t ∧ t.responses = onHeader.responses ++ [r]) ∧
    (∃ t r, exec .sdResult onReady = .next t ∧ t.responses = onReady.responses ++ [r]) :=
  ⟨⟨_, _, rfl, rfl⟩, ⟨_, _, rfl, rfl⟩, ⟨_, _, rfl, rfl⟩, ⟨_, _, rfl, rfl⟩, ⟨_, _, rfl, rfl⟩,
    ⟨_, _, rfl, rfl⟩⟩
theorem test_witness_OneOutcomePerRequest :
    ∃ t, (onHeader.setRequests [{ sel := 0x03, operand := [] }]).requests =
        { sel := 0x03, operand := [] } :: [] ∧
      step (onHeader.setRequests [{ sel := 0x03, operand := [] }]) = .next t := ⟨_, rfl, rfl⟩
/-- Operands at the bound and just above it. -/
theorem test_witness_ChecksumComputesTheTableCrc :
    bulkFits onHeader.config.maxBulkInput (List.replicate 9 (0 : Byte)).length = true ∧
      bulkFits onHeader.config.maxBulkInput (List.replicate 10 (0 : Byte)).length = false := by decide
theorem test_witness_ChecksumProperties :
    crcEntry 0x00 = crcEntry 0x00 ∧ 1 < ([0x01, 0x02] : List Byte).length ∧
      ([0x01, 0x02] : List Byte)[1]? ≠ some 0x03 := by decide +kernel
/-- Payloads at `MAX_PAYLOAD` and one byte longer. -/
theorem test_witness_EncodeFramesOrLengthError :
    bulkFits onHeader.config.maxBulkInput (List.replicate 4 (0 : Byte)).length = true ∧
      (List.replicate 4 (0 : Byte)).length ≤ onHeader.config.maxPayload.val ∧
      bulkFits onHeader.config.maxBulkInput (List.replicate 5 (0 : Byte)).length = true ∧
      onHeader.config.maxPayload.val < (List.replicate 5 (0 : Byte)).length ∧
      State.reset.config = Config.default := by decide
theorem test_witness_EncodedPacketIsValid :
    ∃ t pkt, exec (.encode [0x01]) onHeader = .next t ∧
      t.responses = onHeader.responses ++ [{ status := .ok, state := none, result := pkt }] :=
  ⟨_, _, rfl, rfl⟩
/-- One packet for each of the five clauses: 3 bytes, a wrong header, a wrong length byte, a wrong CRC
byte, and a right one (V-D4, V-D6, V-D8, V-D10, V-D1). -/
theorem test_witness_DecodeChecksInOrder :
    bulkFits onHeader.config.maxBulkInput 4 = true ∧
      ([0xD5, 0x00, 0x00] : List Byte).length < 4 ∧
      4 ≤ ([0xD4, 0x01, 0x01, 0x5E] : List Byte).length ∧
      ([0xD4, 0x01, 0x01, 0x5E] : List Byte)[0]? ≠ some 0xD5 ∧
      ([0xD5, 0x02, 0x01, 0x5E] : List Byte)[0]? = some 0xD5 ∧
      ([0xD5, 0x02, 0x01, 0x5E] : List Byte)[1]? = some 0x02 ∧ (0x02 : Byte).toNat ≠ 4 - 3 ∧
      ([0xD5, 0x01, 0x01, 0x5F] : List Byte)[1]? = some 0x01 ∧ (0x01 : Byte).toNat = 4 - 3 ∧
      ([0xD5, 0x01, 0x01, 0x5F] : List Byte).getLast? ≠
        some (checksum ((([0xD5, 0x01, 0x01, 0x5F] : List Byte).drop 2).take (4 - 3))) ∧
      ([0xD5, 0x01, 0x01, 0x5E] : List Byte).getLast? =
        some (checksum ((([0xD5, 0x01, 0x01, 0x5E] : List Byte).drop 2).take (4 - 3))) := by
  decide +kernel
theorem test_witness_DecodeAcceptsExactlyFrames :
    bulkFits onHeader.config.maxBulkInput ([0xD5, 0x01, 0x01, 0x5E] : List Byte).length = true := by
  decide
/-- 258 bytes after the header (V-D17). -/
theorem test_witness_OverlongPacketIsLengthFieldError :
    bulkFits State.reset.config.maxBulkInput ((List.replicate 258 (0 : Byte)).length + 1) = true ∧
      258 ≤ (List.replicate 258 (0 : Byte)).length := by decide +kernel
/-- The empty payload and a payload of `MAX_PAYLOAD` bytes. -/
theorem test_witness_EncodeDecodeRoundTrip :
    State.reset.config.maxBulkInput = none ∧
      ([] : List Byte).length ≤ State.reset.config.maxPayload.val ∧
      (List.replicate 32 (0 : Byte)).length ≤ State.reset.config.maxPayload.val ∧
      1 ≤ (List.replicate 32 (0 : Byte)).length := by decide
/-- The packet of V-D1 with the byte at `k` replaced by `b`, and what DECODE answers to it. -/
def corrupted (k : Nat) (b : Byte) : Option (List Response) :=
  seen State.responses
    (exec (.decode (([0xD5, BitVec.ofNat 8 1] ++ [0x01] ++ [checksum [0x01]]).set k b)) onHeader)

/-- The header (V-D6), the length byte (V-D8), the payload byte and the CRC byte (V-D10) replaced, each by
another value, and each answered. -/
theorem test_witness_SingleByteCorruptionIsRejected :
    corrupted 0 0xD4 = answer .headerError none [] ∧
      corrupted 1 0x02 = answer .lengthFieldError none [] ∧
      corrupted 2 0x02 = answer .crcError none [] ∧ corrupted 3 0x5F = answer .crcError none [] ∧
      [0xD5, BitVec.ofNat 8 1] ++ [0x01] ++ [checksum [0x01]] = ([0xD5, 0x01, 0x01, 0x5E] : List Byte) ∧
      1 ≤ ([0x01] : List Byte).length ∧ 3 < ([0x01] : List Byte).length + 3 := by decide +kernel
theorem test_witness_PowerOnIsWhatSdNewLeaves : ∃ t, exec .sdNew onReady = .next t := ⟨_, rfl⟩
theorem test_witness_RecvInWaitForHeader :
    onHeader.sd.state = .waitForHeader ∧ (0xD4 : Byte) ≠ 0xD5 ∧ (0xD5 : Byte) = 0xD5 := by decide
theorem test_witness_RecvLengthAboveMaximum :
    onLength.sd.state = .waitForLength ∧ onLength.config.maxPayload.val < (0x05 : Byte).toNat := by
  decide
/-- Length bytes 1 and `MAX_PAYLOAD`. -/
theorem test_witness_RecvLengthInRange :
    onLength.sd.state = .waitForLength ∧ 1 ≤ (0x01 : Byte).toNat ∧
      (0x04 : Byte).toNat ≤ onLength.config.maxPayload.val ∧ onLength.inv = true := by decide +kernel
theorem test_witness_RecvLengthZero :
    onLength.sd.state = .waitForLength ∧ onLength.config.zeroLengthStream = .accept ∧
      onLength.inv = true ∧ (faulty onLength).sd.state = .waitForLength ∧
      (faulty onLength).config.zeroLengthStream = .fault := by decide +kernel
theorem test_witness_RecvAppendsData :
    onData.sd.state = .waitForData ∧ onData.sd.explen = some 0x02 ∧ onData.inv = true ∧
      onData.sd.count + 1 = (0x02 : Byte).toNat := by decide +kernel
theorem test_witness_RecvComparesCrc :
    onCrc.sd.state = .waitForCrc ∧ (0x3F : Byte) = checksum (onCrc.sd.buf.take onCrc.sd.count) ∧
      (0x40 : Byte) ≠ checksum (onCrc.sd.buf.take onCrc.sd.count) := by decide +kernel
theorem test_witness_RecvAfterReadyIsUndefinedFeed :
    onReady.sd.state = .payloadReady ∧
      ModelFault.undefinedFeed ∈ (onReady.recordFault .undefinedFeed).faultRecord ∧
      seen State.faultRecord (step ((onReady.recordFault .undefinedFeed).setRequests
        [{ sel := 0x03, operand := [] }])) = some [.undefinedFeed] := by decide +kernel
theorem test_witness_UnwrittenExplenIsModelFault :
    onData.inv = true ∧ seen State.faultRecord (exec (.sdRecv 0x02)
      (stateAt .waitForData none [0, 0, 0, 0] 0)) = some [.explenUnwritten] ∧
    (stateAt .waitForData none [0, 0, 0, 0] 0).sd.state = .waitForData ∧
      (stateAt .waitForData none [0, 0, 0, 0] 0).sd.explen = none := by decide +kernel
theorem test_witness_SdResultReadsPayload :
    onReady.sd.state = .payloadReady ∧ onCrc.sd.state ≠ .payloadReady := by decide
/-- The premises of the two conditional clauses hold of `onData` and of `onLength`. -/
theorem test_witness_SdRecvFrame :
    (∃ t, exec (.sdRecv 0x02) onData = .next t) ∧ onData.sd.state ≠ .waitForLength ∧
      (∃ t, exec (.sdRecv 0x02) onLength = .next t) ∧ onLength.sd.state ≠ .waitForData ∧
      3 ≠ onData.sd.count := ⟨⟨_, rfl⟩, by decide, ⟨_, rfl⟩, by decide, by decide⟩
theorem test_witness_ReadOnlyOperationsFrame :
    (∃ t, exec (.checksum [0x01]) onHeader = .next t) ∧
      (∃ t, exec (.encode [0x01]) onHeader = .next t) ∧
      (∃ t, exec (.decode [0x01]) onHeader = .next t) ∧ ∃ t, exec .sdResult onReady = .next t :=
  ⟨⟨_, rfl⟩, ⟨_, rfl⟩, ⟨_, rfl⟩, ⟨_, rfl⟩⟩
theorem test_witness_BulkAnswersIgnoreRegisters :
    onHeader.config = onReady.config ∧ ∃ t, exec (.encode [0x01]) onHeader = .next t :=
  ⟨rfl, ⟨_, rfl⟩⟩
theorem test_witness_ReadOnlyOperationsRepeat :
    (∃ t r, exec (.decode [0x01]) onHeader = .next t ∧ t.responses = onHeader.responses ++ [r]) ∧
    ∃ t r, exec .sdResult onReady = .next t ∧ t.responses = onReady.responses ++ [r] :=
  ⟨⟨_, _, rfl, rfl⟩, ⟨_, _, rfl, rfl⟩⟩
/-- An error of the codec and one of the stream decoder. -/
theorem test_witness_ErrorsChangeNoRegister :
    (seen State.responses (exec (.decode []) onHeader) = answer .lengthError none []) ∧
    (seen State.responses (exec (.sdRecv 0x00) onHeader) =
      answer .headerError (some .waitForHeader) []) ∧
    Status.lengthError ≠ .ok ∧ Status.headerError ≠ .ok := by decide +kernel
theorem test_witness_ErrorsPerOperation :
    (∃ t r, exec (.sdRecv 0x05) onLength = .next t ∧ t.responses = onLength.responses ++ [r]) ∧
    ∃ t r, exec (.sdRecv 0x40) onCrc = .next t ∧ t.responses = onCrc.responses ++ [r] :=
  ⟨⟨_, _, rfl, rfl⟩, ⟨_, _, rfl, rfl⟩⟩
theorem test_witness_ModelFaultsAreExactlyTheThree :
    seen State.faultRecord (exec (.sdRecv 0x00) onReady) = some [.undefinedFeed] ∧
      seen State.faultRecord (exec .sdResult onCrc) = some [.resultNotReady] ∧
      seen State.faultRecord (exec (.sdRecv 0x00) (faulty onLength)) = some [.zeroLengthStream] ∧
      onReady.inv = true ∧ ModelFault.resultNotReady ≠ .explenUnwritten ∧
      seen State.faultRecord (step ((onReady.recordFault .resultNotReady).setRequests
        [{ sel := 0x05, operand := [] }])) = some [.resultNotReady] := by
  decide +kernel
theorem test_witness_RecordsAreNeverCleared :
    (∃ t, step (onReady.refuse.setRequests [{ sel := 0x04, operand := [0] }]) = .next t) ∧
      (onReady.refuse.setRequests [{ sel := 0x04, operand := [0] }]).refusalMark = true :=
  ⟨⟨_, rfl⟩, rfl⟩
theorem test_witness_ConfigurationNeverChanges :
    ∃ t, step (onHeader.setRequests [{ sel := 0x04, operand := [0xD5] }]) = .next t := ⟨_, rfl⟩
theorem test_witness_OnlySdNewAndSdRecvWriteRegisters :
    seen (fun t => decide (t.sd = onHeader.sd))
      (step (onHeader.setRequests [{ sel := 0x04, operand := [0xD5] }])) = some false := by
  decide +kernel
theorem test_witness_StepKeepsDecoderInvariant :
    onData.inv = true ∧
      ∃ t, step (onData.setRequests [{ sel := 0x04, operand := [0x02] }]) = .next t :=
  ⟨by decide +kernel, ⟨_, rfl⟩⟩
theorem test_witness_StepIsTotal : onReady.inv = true := by decide +kernel
/-- A duty met in `PAYLOAD_READY` and one met elsewhere. -/
theorem test_witness_DutifulHostStaysGood :
    onReady.inv = true ∧ onReady.good = true ∧ onReady.config.zeroLengthStream = .accept ∧
      Instr.sdResult.wellFormed onReady.config = true ∧ hostMayIssue onReady .sdResult = true ∧
      onCrc.inv = true ∧ onCrc.good = true ∧ hostMayIssue onCrc (.sdRecv 0x00) = true := by
  decide +kernel
/-- Two states that differ in the unspecified entries only. -/
theorem test_witness_UnspecifiedBufferIsUnobservable :
    onCrc.inv = true ∧ (stateAt .waitForCrc (some 1) [0x05, 7, 8, 9] 1).inv = true ∧
      onCrc.sameView (stateAt .waitForCrc (some 1) [0x05, 7, 8, 9] 1) ∧
      (∃ t, step onCrc = .next t) ∧
      onCrc.sd ≠ (stateAt .waitForCrc (some 1) [0x05, 7, 8, 9] 1).sd :=
  ⟨by decide +kernel, by decide +kernel, ⟨rfl, by decide +kernel, rfl, rfl, rfl, rfl⟩, ⟨_, rfl⟩,
    by decide +kernel⟩
theorem test_witness_RunningCrcMatchesBuffer :
    onData.inv = true ∧ onData.sd.state = .waitForData ∧ onLength.inv = true ∧
      onLength.sd.state = .waitForLength ∧ (∃ t, exec (.sdRecv 0x02) onData = .next t) ∧
      ∃ t, exec (.sdRecv 0x00) onLength = .next t :=
  ⟨by decide +kernel, rfl, by decide +kernel, rfl, ⟨_, rfl⟩, ⟨_, rfl⟩⟩
theorem test_witness_HeaderHunting :
    onHeader.sd.state = .waitForHeader ∧ ∀ b ∈ ([0x00, 0xFF, 0xD4, 0xD6] : List Byte), b ≠ 0xD5 := by
  decide
/-- A feed without a model fault, and one byte more that ends in one. -/
theorem test_witness_FeedIsItsExpansion :
    (∃ t, runInstrs (feedExpansion [0x3F]) onCrc = .next t ∧ t.faultRecord = onCrc.faultRecord) ∧
    exec (.sdRecv 0x00) onReady = .next { onReady with
      faultRecord := onReady.faultRecord ++ [.undefinedFeed] } :=
  ⟨⟨_, rfl, rfl⟩, rfl⟩
theorem test_witness_IncrementalMatchesBulk :
    exec (.decode [0xD5, 0x01, 0x01, 0x5E]) onHeader = .next { onHeader with
      responses := onHeader.responses ++ [{ status := .ok, state := none, result := [0x01] }] } ∧
    ([0x01] : List Byte).length ≤ onReady.config.maxPayload.val ∧
    (onReady.setRequests (([Instr.sdNew] ++ [0xD5, 0x01, 0x01, 0x5E].map Instr.sdRecv ++
      [Instr.sdResult]).map encodeRequest)).requests =
      ([Instr.sdNew] ++ [0xD5, 0x01, 0x01, 0x5E].map Instr.sdRecv ++ [Instr.sdResult]).map
        encodeRequest := ⟨rfl, by decide, rfl⟩

/-- A host with the spec's defaults and the opcode of V-M1. -/
def sampleHost : HostConfig := { qepOpcode := 0x8B, ioFailurePolicy := .retry }

theorem test_witness_SendCommandAttemptBudget :
    ((sendCommand { sampleHost with maxRetry := 1 } [0x01] onHeader).moves
      { sampleHost with maxRetry := 1 } [.written 0, .noByte 501]).phase =
      .ended .transmissionError ∧
    LinkEvent.ioFailure ∉ [LinkEvent.written 0, LinkEvent.noByte 501] := by decide +kernel
/-- A write that fails counts as an attempt and puts no packet on the wire (R240, D34). -/
theorem test_failed_write_counts :
    ((sendCommand { sampleHost with maxRetry := 1 } [0x01] onHeader).move
      { sampleHost with maxRetry := 1 } .ioFailure).phase = .ended .transmissionError ∧
    ((sendCommand { sampleHost with maxRetry := 1 } [0x01] onHeader).move
      { sampleHost with maxRetry := 1 } .ioFailure).wire = [] := by decide +kernel
theorem test_witness_OversizeSendMakesNoAttempt :
    bulkFits onHeader.config.maxBulkInput (List.replicate 5 (0 : Byte)).length = true ∧
      onHeader.config.maxPayload.val < (List.replicate 5 (0 : Byte)).length := by decide
/-- A response of `MAX_PAYLOAD` bytes to a host about to start an attempt. -/
theorem test_witness_AttemptReturnsResponsePayload :
    (sendCommand sampleHost [0x01] onHeader).phase = .starting ∧
      1 ≤ (List.replicate 4 (0x05 : Byte)).length ∧
      (List.replicate 4 (0x05 : Byte)).length ≤
        (sendCommand sampleHost [0x01] onHeader).block.config.maxPayload.val := by decide +kernel
/-- A poll exactly at the timeout and polls one tick after it, with and without budget left. -/
theorem test_witness_TimeoutIsStrictAndFromStart :
    ((sendCommand sampleHost [0x01] onHeader).move sampleHost (.written 7)).phase = .polling 7 ∧
      507 ≤ 7 + sampleHost.timeout ∧ 7 + sampleHost.timeout < 508 ∧
      ((sendCommand sampleHost [0x01] onHeader).move sampleHost (.written 7)).attempts <
        sampleHost.maxRetry ∧
      ((sendCommand { sampleHost with maxRetry := 1 } [0x01] onHeader).move
        { sampleHost with maxRetry := 1 } (.written 7)).phase = .polling 7 ∧
      ({ sampleHost with maxRetry := 1 } : HostConfig).maxRetry ≤
        ((sendCommand { sampleHost with maxRetry := 1 } [0x01] onHeader).move
          { sampleHost with maxRetry := 1 } (.written 7)).attempts := by
  decide +kernel
theorem test_witness_MoveWritesDecodablePacket :
    State.reset.config.maxBulkInput = none ∧ 25 ≤ State.reset.config.maxPayload.val := by decide
/-- `MAX_PAYLOAD` on both sides of 25. -/
theorem test_witness_MoveReportsOnlyStreamFailures :
    State.reset.config.maxBulkInput = none ∧ 25 ≤ State.reset.config.maxPayload.val ∧
      (State.resetWith { Config.default with maxPayload := 25 }).config.maxPayload.val = 25 ∧
      (State.resetWith { Config.default with maxPayload := 24 }).config.maxBulkInput = none ∧
      (State.resetWith { Config.default with maxPayload := 24 }).config.maxPayload.val < 25 := by decide
/-- R238: a write that raises after 3 bytes of the packet of V-M1 is what Move reports. -/
theorem test_move_write_raises :
    (moveCommand sampleHost #v[1, 2, 3, 4, 5] 6 (.writeRaised 3) State.reset).ending = .streamError ∧
    (moveCommand sampleHost #v[1, 2, 3, 4, 5] 6 (.writeRaised 3) State.reset).wire =
      [0xD5, 0x19, 0x8B] := by decide +kernel

end Sys2Proof.Machine.Tests
end

section
/-!
PROOFS. Bulk operands above `MAX_BULK_INPUT` (spec/00_scope.md R12): when an operand is over the bound,
and the refusal of the three bulk operations.
-/

namespace Sys2Proof.Machine

/-- R12: a length is over the bound only when there is a bound and it is smaller. -/
theorem bulkFits_eq_false_iff (bound : Option Nat) (n : Nat) :
    bulkFits bound n = false ↔ ∃ m, bound = some m ∧ m < n := by
  cases bound with
  | none => simp [bulkFits]
  | some m => simp [bulkFits]

/-! Each bulk operation is one bulk reply. -/

theorem exec_checksum_eq_bulkReply (data : List Byte) (s : State) :
    exec (.checksum data) s = .next (bulkReply s data (.ok, [checksum data])) := rfl

theorem exec_encode_eq_bulkReply (payload : List Byte) (s : State) :
    exec (.encode payload) s = .next (bulkReply s payload (encodePayload s.config payload)) := rfl

theorem exec_decode_eq_bulkReply (packet : List Byte) (s : State) :
    exec (.decode packet) s = .next (bulkReply s packet (decodePacket packet)) := rfl

/-- Settles O8: an operand above the bound does not fit, and each bulk operation is a bulk reply, which
such an operand turns into the refusal. -/
theorem bulkBoundRefuses : Obligations.BulkBoundRefuses := by
  refine ⟨rfl, fun s m ops hbound hlong => ?_⟩
  have hover : bulkFits s.config.maxBulkInput ops.length = false :=
    (bulkFits_eq_false_iff _ _).mpr ⟨m, hbound, hlong⟩
  have hrefused (reply : Status × List Byte) :
      bulkReply s ops reply = { s with refusalMark := true } := bulkReply_refused s ops reply hover
  rw [exec_checksum_eq_bulkReply, exec_encode_eq_bulkReply, exec_decode_eq_bulkReply]
  simp only [hrefused, and_self]

end Sys2Proof.Machine
end

section
/-!
PROOFS. The three ways an accepted request can end (spec/00_scope.md R15), said once for `exec` and
`step`, and the records of spec/10_state.md R35, which all three keep.
-/

namespace Sys2Proof.Machine

/-- What an accepted request can make of the state `s` (R15): it answers, the decoder's registers and the
draw count being what they may, or it records a model fault, or it is refused. -/
inductive Served (s : State) : State → Prop where
  | answered (d : StreamDecoder) (n : Nat) (st : Status) (tag : Option StateTag) (result : List Byte) :
      Served s (State.respond { s with sd := d, draws := n } st tag result)
  | faulted (f : ModelFault) : Served s (s.recordFault f)
  | refused : Served s s.refuse

theorem served_bulkReply (s : State) (operand : List Byte) (reply : Status × List Byte) :
    Served s (bulkReply s operand reply) := by
  obtain h | h := bulkReply_cases s operand reply <;> rw [h]
  · exact .answered s.sd s.draws reply.1 none reply.2
  · exact .refused

theorem served_finishRecv (s : State) (e : RecvEnd) : Served s (finishRecv s e) := by
  obtain ⟨st, d, -, h⟩ | ⟨f, -, h⟩ := finishRecv_cases s e <;> rw [h]
  · exact .answered d s.draws st (some d.state) []
  · exact .faulted f

/-- Every operation ends, in one of the three ways. -/
theorem exec_served (i : Instr) (s : State) : ∃ t, exec i s = .next t ∧ Served s t := by
  cases i with
  | checksum data => exact ⟨_, exec_checksum_eq_bulkReply data s, served_bulkReply ..⟩
  | encode payload => exact ⟨_, exec_encode_eq_bulkReply payload s, served_bulkReply ..⟩
  | decode packet => exact ⟨_, exec_decode_eq_bulkReply packet s, served_bulkReply ..⟩
  | sdNew => exact ⟨_, rfl, .answered (freshDecoder s.config s.draws) (s.draws + 1) .ok _ []⟩
  | sdRecv b => exact ⟨_, rfl, served_finishRecv s _⟩
  | sdResult =>
    by_cases hready : s.sd.state = .payloadReady
    · exact ⟨s.respond .ok (some .payloadReady) s.sd.payload, by simp [exec, execSdResult, hready],
        .answered s.sd s.draws .ok (some .payloadReady) s.sd.payload⟩
    · exact ⟨_, by simp [exec, execSdResult, hready], .faulted .resultNotReady⟩

/-- Every step idles with no request pending, or takes the first request off the queue and serves it. -/
theorem step_cases (s : State) :
    (s.requests = [] ∧ step s = .next s) ∨
      ∃ r rest t, s.requests = r :: rest ∧ step s = .next t ∧ Served (s.setRequests rest) t := by
  cases hq : s.requests with
  | nil => exact .inl ⟨rfl, by simp [step, hq]⟩
  | cons r rest =>
    right
    cases hr : decodeRequest r with
    | ok i =>
      obtain ⟨t, ht, hserved⟩ := exec_served i (s.setRequests rest)
      exact ⟨r, rest, t, rfl, by simp [step, hq, hr, ht], hserved⟩
    | error e => exact ⟨r, rest, _, rfl, by simp [step, hq, hr], .refused⟩

/-- R35: however a request ends, earlier faults and a set mark stay. -/
theorem Served.keeps_records {s t : State} (h : Served s t) :
    s.faultRecord <+: t.faultRecord ∧ (s.refusalMark = true → t.refusalMark = true) := by
  cases h with
  | answered d n st tag result => exact ⟨List.prefix_rfl, id⟩
  | faulted f => exact ⟨List.prefix_append s.faultRecord [f], id⟩
  | refused => exact ⟨List.prefix_rfl, fun _ => rfl⟩

/-- Settles O42: an idle step changes nothing, and any other serves a request from a state with the same
records. -/
theorem recordsAreNeverCleared : Obligations.RecordsAreNeverCleared := by
  refine ⟨⟨rfl, rfl⟩, fun s t hstep => ?_⟩
  obtain ⟨-, hidle⟩ | ⟨r, rest, u, -, hserve, hserved⟩ := step_cases s
  · obtain rfl : s = t := Host.Outcome.next.inj (hidle.symm.trans hstep)
    exact ⟨List.prefix_rfl, id⟩
  · obtain rfl : u = t := Host.Outcome.next.inj (hserve.symm.trans hstep)
    simpa using hserved.keeps_records

end Sys2Proof.Machine
end

section
/-!
PROOFS. Requests and codes (spec/30_encoding.md R71, R72, R74, R75): the requests the decoder rejects, the
step that refuses one, and the 3-bit codes read back.
-/

namespace Sys2Proof

/-! An operand of another shape than R71's. -/

theorem emptyOperand_of_ne_nil (i : Instr) {ops : List Byte} (h : ops ≠ []) :
    emptyOperand i ops = .error .operandShape := by
  cases ops with
  | nil => exact absurd rfl h
  | cons b bs => rfl

theorem oneByteOperand_of_length_ne_one {ops : List Byte} (h : ops.length ≠ 1) :
    oneByteOperand ops = .error .operandShape := by
  match ops with
  | [] => rfl
  | [_] => exact absurd rfl h
  | _ :: _ :: _ => rfl

/-- R71: from 8 on, one of the bits `sel[7:3]` is set. -/
theorem decodeRequest_of_eight_le (r : Request) (h : 8 ≤ r.sel.toNat) :
    decodeRequest r = .error .selectorHighBits := by
  have hhigh : r.sel.extractLsb' 3 5 ≠ 0 := by
    intro hzero
    have hquot : r.sel.toNat / 8 % 32 = 0 := by
      simpa [Nat.shiftRight_eq_div_pow] using congrArg BitVec.toNat hzero
    omega
  rw [decodeRequest, if_pos hhigh]

/-- Settles O1: the decoder's lemma of each low selector, and the rejections above. -/
theorem selectorTableDecodes : Obligations.SelectorTableDecodes := by
  intro ops b
  refine ⟨decodeRequest_sel0 ops, decodeRequest_sel1 ops, decodeRequest_sel2 ops, decodeRequest_sel3 [],
    decodeRequest_sel4 [b], decodeRequest_sel5 [], decodeRequest_sel6 ops, decodeRequest_sel7 ops,
    fun hne => ⟨?sdNew, ?sdResult⟩, fun hlen => ?sdRecv, fun sel hsel => ?highBits⟩
  case sdNew => exact (decodeRequest_sel3 ops).trans (emptyOperand_of_ne_nil .sdNew hne)
  case sdResult => exact (decodeRequest_sel5 ops).trans (emptyOperand_of_ne_nil .sdResult hne)
  case sdRecv => exact (decodeRequest_sel4 ops).trans (oneByteOperand_of_length_ne_one hlen)
  case highBits => exact decodeRequest_of_eight_le { sel, operand := ops } hsel

end Sys2Proof

namespace Sys2Proof.Machine

theorem illegalRequest_iff (r : Request) :
    illegalRequest r = true ↔ 8 ≤ r.sel.toNat ∨ r.sel = 0x06 ∨ r.sel = 0x07 ∨
      ((r.sel = 0x03 ∨ r.sel = 0x05) ∧ r.operand ≠ []) ∨ (r.sel = 0x04 ∧ r.operand.length ≠ 1) := by
  simp [illegalRequest, or_assoc]

/-- R75: the decoder rejects a request in each of the three cases, as the table of R71 says. -/
theorem decodeRequest_of_illegalRequest {r : Request} (h : illegalRequest r = true) :
    ∃ e, decodeRequest r = .error e := by
  obtain ⟨sel, ops⟩ := r
  obtain ⟨-, -, -, -, -, -, hsel6, hsel7, hempty, honeByte, hhigh⟩ := selectorTableDecodes ops 0x00
  obtain hbig | rfl | rfl | ⟨rfl | rfl, hne⟩ | ⟨rfl, hlen⟩ := (illegalRequest_iff _).mp h
  · exact ⟨_, hhigh sel hbig⟩
  · exact ⟨_, hsel6⟩
  · exact ⟨_, hsel7⟩
  · exact ⟨_, (hempty hne).1⟩
  · exact ⟨_, (hempty hne).2⟩
  · exact ⟨_, honeByte hlen⟩

/-- R206: a request the decoder rejects is taken off the queue and sets the mark. -/
theorem step_of_decodeRequest_error {s : State} {r : Request} {rest : List Request} {e : DecodeError}
    (hq : s.requests = r :: rest) (hr : decodeRequest r = .error e) :
    step s = .next { s with requests := rest, refusalMark := true } := by
  simp only [step, hq, hr]
  rfl

/-- Settles O6: the decoder rejects an illegal request, and the step refuses what the decoder rejects. -/
theorem illegalRequestIsRefused : Obligations.IllegalRequestIsRefused := by
  intro s r rest hq hillegal
  obtain ⟨e, hr⟩ := decodeRequest_of_illegalRequest ((illegalRequest_iff r).mpr hillegal)
  exact step_of_decodeRequest_error hq hr

/-! The codes of statuses and state tags. -/

@[simp] theorem statusOfCode_code (st : Status) : statusOfCode st.code = some st := by
  cases st <;> rfl

@[simp] theorem stateTagOfCode_code (tag : StateTag) : stateTagOfCode tag.code = some tag := by
  cases tag <;> rfl

/-- U10: codes 5 to 7 name no status and no tag. -/
theorem ofCode_of_five_le (c : BitVec 3) (h : 5 ≤ c.toNat) :
    statusOfCode c = none ∧ stateTagOfCode c = none := by
  obtain rfl | rfl | rfl : c = 5 ∨ c = 6 ∨ c = 7 := by bv_omega
  all_goals exact ⟨rfl, rfl⟩

/-- Settles O9: the code tables as they stand, their reading back, and the unused codes. -/
theorem statusAndTagCodes : Obligations.StatusAndTagCodes :=
  ⟨⟨rfl, rfl, rfl, rfl, rfl⟩, ⟨rfl, rfl, rfl, rfl, rfl⟩, statusOfCode_code, stateTagOfCode_code,
    ofCode_of_five_le⟩

end Sys2Proof.Machine
end

section
/-!
PROOFS. The pseudo-instruction `sd.feed` (spec/30_encoding.md R79): a feed in which no fault is recorded
is its expansion, and it ends with the first byte whose SD_RECV records one.
-/

namespace Sys2Proof.Machine

/-- R35 for one operation. -/
theorem exec_keeps_faultRecord {i : Instr} {s t : State} (h : exec i s = .next t) :
    s.faultRecord <+: t.faultRecord := by
  obtain ⟨u, hu, hserved⟩ := exec_served i s
  obtain rfl : u = t := Host.Outcome.next.inj (hu.symm.trans h)
  exact hserved.keeps_records.1

/-- A run of operations that reaches `t` runs its first and goes on. -/
theorem runInstrs_cons_next {i : Instr} {is : List Instr} {s t : State}
    (h : runInstrs (i :: is) s = .next t) : ∃ u, exec i s = .next u ∧ runInstrs is u = .next t := by
  obtain ⟨u, hu, -⟩ := exec_served i s
  exact ⟨u, hu, by simpa [runInstrs, hu] using h⟩

/-- R35 for a run of operations. -/
theorem runInstrs_keeps_faultRecord {is : List Instr} {s t : State} (h : runInstrs is s = .next t) :
    s.faultRecord <+: t.faultRecord := by
  induction is generalizing s with
  | nil =>
    obtain rfl : s = t := Host.Outcome.next.inj h
    exact List.prefix_rfl
  | cons i is ih =>
    obtain ⟨u, hu, hrest⟩ := runInstrs_cons_next h
    exact (exec_keeps_faultRecord hu).trans (ih hrest)

/-- R79: the feed goes on after a byte whose SD_RECV records no fault. -/
theorem runFeed_cons_of_no_fault {b : Byte} {bs : List Byte} {s t : State}
    (h : exec (.sdRecv b) s = .next t) (hrec : t.faultRecord = s.faultRecord) :
    runFeed (b :: bs) s = runFeed bs t := by
  simp [runFeed, h, hrec]

/-- R79: the feed ends with the byte whose SD_RECV records a fault. -/
theorem runFeed_cons_of_fault {b : Byte} {bs : List Byte} {s t : State}
    (h : exec (.sdRecv b) s = .next t) (hrec : t.faultRecord ≠ s.faultRecord) :
    runFeed (b :: bs) s = .next t := by
  simp [runFeed, h, hrec]

/-- A feed runs through the bytes whose expansion records no fault: the record only grows, so unchanged at
the end it was unchanged after each byte. -/
theorem runFeed_append {bs : List Byte} {s t : State} (rest : List Byte)
    (h : runInstrs (feedExpansion bs) s = .next t) (hrec : t.faultRecord = s.faultRecord) :
    runFeed (bs ++ rest) s = runFeed rest t := by
  induction bs generalizing s with
  | nil =>
    obtain rfl : s = t := Host.Outcome.next.inj h
    rfl
  | cons b bs ih =>
    obtain ⟨u, hu, hrun⟩ := runInstrs_cons_next h
    have hgrows : u.faultRecord <+: s.faultRecord := hrec ▸ runInstrs_keeps_faultRecord hrun
    have hsame : u.faultRecord = s.faultRecord :=
      hgrows.eq_of_length_le (exec_keeps_faultRecord hu).length_le
    calc runFeed (b :: (bs ++ rest)) s
        = runFeed (bs ++ rest) u := runFeed_cons_of_no_fault hu hsame
      _ = runFeed rest t := ih hrun (hrec.trans hsame.symm)

/-- Settles O52: the requests are those of the expansion; a feed runs through bytes that record no fault,
whether none follows or one whose fault ends it. -/
theorem feedIsItsExpansion : Obligations.FeedIsItsExpansion := by
  refine ⟨fun bs => ?requests, fun bs s t hrun hrec => ?clean,
    fun bs b rest s t f hrun hrec hfault => ?stops⟩
  case requests => simp [Line.requests, feedExpansion, encodeRequest]
  case clean => simpa [runFeed] using runFeed_append [] hrun hrec
  case stops =>
    have hnew : t.faultRecord ++ [f] ≠ t.faultRecord := by simp
    exact (runFeed_append (b :: rest) hrun hrec).trans (runFeed_cons_of_fault hfault hnew)

end Sys2Proof.Machine
end

section
/-!
PROOFS. CHECKSUM (spec/40_crc.md R104): the fold it computes, its value on zero bytes, and its answer on
both sides of the bulk bound.
-/

namespace Sys2Proof.Machine

/-! Checksum, byte by byte. -/

@[simp] theorem checksum_nil : checksum [] = 0x00 := rfl

/-- R104: the last byte of the operand is the last table step. -/
theorem checksum_concat (data : List Byte) (b : Byte) :
    checksum (data ++ [b]) = crcStep (checksum data) b := by
  simp [checksum]

/-- R104 "because `TABLE[0] = 0x00`": a zero byte keeps a zero accumulator. -/
theorem crcStep_zero_zero : crcStep 0x00 0x00 = 0x00 := by decide

theorem checksum_replicate_zero (n : Nat) : checksum (List.replicate n 0x00) = 0x00 := by
  induction n with
  | zero => exact checksum_nil
  | succ n ih => rw [List.replicate_succ', checksum_concat, ih, crcStep_zero_zero]

/-! CHECKSUM, within the bound of R12 and above it. -/

theorem exec_checksum_accepted {s : State} {data : List Byte}
    (h : bulkFits s.config.maxBulkInput data.length = true) :
    exec (.checksum data) s = .next (s.respond .ok none [checksum data]) := by
  rw [exec_checksum_eq_bulkReply, bulkReply_accepted s data _ h]

theorem exec_checksum_refused {s : State} {data : List Byte}
    (h : bulkFits s.config.maxBulkInput data.length = false) :
    exec (.checksum data) s = .next s.refuse := by
  rw [exec_checksum_eq_bulkReply, bulkReply_refused s data _ h]

/-- Settles O12: the answer within the bound, whose byte is by definition the fold of R104, the refusal
above it, and the corner cases by induction on the number of zero bytes. -/
theorem checksumComputesTheTableCrc : Obligations.ChecksumComputesTheTableCrc := by
  refine ⟨decodeRequest_sel0, fun s data hfits => ?accepted, fun s data hover => ?refused,
    checksum_replicate_zero, ?workedExample⟩
  case accepted => exact exec_checksum_accepted hfits
  case refused => exact exec_checksum_refused hover
  case workedExample => decide

end Sys2Proof.Machine
end

section
/-!
PROOFS. CHECKSUM, ENCODE and DECODE read no register and write none (spec/41_codec.md R133): each is a bulk
reply whose answer depends on the operand and the parameters alone.
-/

namespace Sys2Proof.Machine

@[simp] theorem bulkReply_sd (s : State) (operand : List Byte) (reply : Status × List Byte) :
    (bulkReply s operand reply).sd = s.sd := by
  obtain h | h := bulkReply_cases s operand reply <;> rw [h]
  · exact State.respond_sd s ..
  · exact State.refuse_sd s

/-- What a bulk reply adds to the responses: the answer within the bound of R12, nothing above it. -/
theorem bulkReply_added_responses (s : State) (operand : List Byte) (reply : Status × List Byte) :
    (bulkReply s operand reply).responses.drop s.responses.length =
      if bulkFits s.config.maxBulkInput operand.length then
        [{ status := reply.1, state := none, result := reply.2 }] else [] := by
  cases hfits : bulkFits s.config.maxBulkInput operand.length with
  | true => simp [bulkReply_accepted s operand reply hfits]
  | false => simp [bulkReply_refused s operand reply hfits]

/-- Under fixed parameters a bulk operation gives one and the same bulk reply in every state. -/
theorem exec_bulk_eq_bulkReply {i : Instr}
    (h : ∃ ops, i = .checksum ops ∨ i = .encode ops ∨ i = .decode ops) (cfg : Config) :
    ∃ ops reply, ∀ s : State, s.config = cfg → exec i s = .next (bulkReply s ops reply) := by
  obtain ⟨ops, rfl | rfl | rfl⟩ := h
  · exact ⟨ops, _, fun s _ => exec_checksum_eq_bulkReply ops s⟩
  · exact ⟨ops, encodePayload cfg ops, fun s hs => hs ▸ exec_encode_eq_bulkReply ops s⟩
  · exact ⟨ops, _, fun s _ => exec_decode_eq_bulkReply ops s⟩

/-- Settles O37: the two states' bulk reply is the same, it keeps the registers, and what it adds to the
responses depends on the bulk bound, which is a parameter, and on nothing else of the state. -/
theorem bulkAnswersIgnoreRegisters : Obligations.BulkAnswersIgnoreRegisters := by
  intro s s' t i hbulk hcfg hexec
  obtain ⟨ops, reply, hreply⟩ := exec_bulk_eq_bulkReply hbulk s.config
  obtain rfl : bulkReply s ops reply = t := Host.Outcome.next.inj ((hreply s rfl).symm.trans hexec)
  exact ⟨bulkReply_sd s ops reply, bulkReply s' ops reply, hreply s' hcfg.symm,
    bulkReply_sd s' ops reply, by rw [bulkReply_added_responses, bulkReply_added_responses, hcfg]⟩

end Sys2Proof.Machine
end

section
/-!
PROOFS. ENCODE and DECODE (spec/41_codec.md R120 to R130): indexing and slices of spec/00_scope.md R14 in the
library's words, the answer of each check of DECODE, and both operations within the bulk bound.
-/

namespace Sys2Proof.Machine

/-! Indexing and slices. -/

theorem byteAt_eq_iff {s : List Byte} {i : Nat} (h : i < s.length) (b : Byte) :
    byteAt s i = b ↔ s[i]? = some b := by
  simp [byteAt, h]

theorem byteAt_lastIndex_eq_iff {s : List Byte} (h : 0 < s.length) (b : Byte) :
    byteAt s (lastIndex s) = b ↔ s.getLast? = some b := by
  rw [List.getLast?_eq_getElem?, lastIndex, byteAt_eq_iff (by omega)]

/-- `packet[2 .. last-1]`: all but the first two bytes and the last one. -/
theorem payloadSlice_eq (packet : List Byte) :
    payloadSlice packet = (packet.drop 2).take (packet.length - 3) := by
  have hlen : packet.length - 1 - 1 + 1 - 2 = packet.length - 3 := by omega
  rw [payloadSlice, slice, lastIndex, List.drop_take, hlen]

theorem payloadSlice_length (packet : List Byte) :
    (payloadSlice packet).length = packet.length - 3 := by
  rw [payloadSlice_eq, List.length_take, List.length_drop]
  omega

/-! DECODE's checks: the first that fails decides. -/

section
variable {p : List Byte} {n : Byte}

/-- R126. -/
theorem decodePacket_of_short (h : p.length < 4) : decodePacket p = (.lengthError, []) :=
  if_pos h

/-- R127. -/
theorem decodePacket_of_header_ne (hlen : 4 ≤ p.length) (h : p[0]? ≠ some 0xD5) :
    decodePacket p = (.headerError, []) := by
  have hlong : ¬ p.length < minPacket := Nat.not_lt.mpr hlen
  have hhead : byteAt p 0 ≠ header := mt (byteAt_eq_iff (by omega) _).mp h
  rw [decodePacket, if_neg hlong, if_pos hhead]

/-- R128 and R129: the two checks left when the first two pass. -/
theorem decodePacket_of_header (hlen : 4 ≤ p.length) (hhead : p[0]? = some 0xD5) (hn : p[1]? = some n) :
    decodePacket p =
      if n.toNat ≠ p.length - 3 then (.lengthFieldError, [])
      else if p.getLast? ≠ some (checksum (payloadSlice p)) then (.crcError, [])
      else (.ok, payloadSlice p) := by
  have hlong : ¬ p.length < minPacket := Nat.not_lt.mpr hlen
  have hzero : byteAt p 0 = header := (byteAt_eq_iff (by omega) _).mpr hhead
  have hone : byteAt p 1 = n := (byteAt_eq_iff (by omega) _).mpr hn
  have hlast := byteAt_lastIndex_eq_iff (s := p) (by omega) (checksum (payloadSlice p))
  rw [decodePacket, if_neg hlong, if_neg (not_not.mpr hzero), hone]
  simp only [ne_eq, hlast]

/-- R128. -/
theorem decodePacket_of_lengthField_ne (hlen : 4 ≤ p.length) (hhead : p[0]? = some 0xD5)
    (hn : p[1]? = some n) (h : n.toNat ≠ p.length - 3) :
    decodePacket p = (.lengthFieldError, []) := by
  rw [decodePacket_of_header hlen hhead hn, if_pos h]

/-- R129. -/
theorem decodePacket_of_crc_ne (hlen : 4 ≤ p.length) (hhead : p[0]? = some 0xD5)
    (hn : p[1]? = some n) (hfield : n.toNat = p.length - 3)
    (h : p.getLast? ≠ some (checksum (payloadSlice p))) :
    decodePacket p = (.crcError, []) := by
  rw [decodePacket_of_header hlen hhead hn, if_neg (not_not.mpr hfield), if_pos h]

/-- R130. -/
theorem decodePacket_of_valid (hlen : 4 ≤ p.length) (hhead : p[0]? = some 0xD5)
    (hn : p[1]? = some n) (hfield : n.toNat = p.length - 3)
    (h : p.getLast? = some (checksum (payloadSlice p))) :
    decodePacket p = (.ok, payloadSlice p) := by
  rw [decodePacket_of_header hlen hhead hn, if_neg (not_not.mpr hfield), if_neg (not_not.mpr h)]

end

/-! Both operations within the bound of R12. -/

theorem exec_encode_accepted {s : State} {p : List Byte} {status : Status} {result : List Byte}
    (hfits : bulkFits s.config.maxBulkInput p.length = true)
    (h : encodePayload s.config p = (status, result)) :
    exec (.encode p) s = .next (s.respond status none result) := by
  rw [exec_encode_eq_bulkReply, h, bulkReply_accepted s p _ hfits]

theorem exec_decode_accepted {s : State} {p : List Byte} {status : Status} {result : List Byte}
    (hfits : bulkFits s.config.maxBulkInput p.length = true)
    (h : decodePacket p = (status, result)) :
    exec (.decode p) s = .next (s.respond status none result) := by
  rw [exec_decode_eq_bulkReply, h, bulkReply_accepted s p _ hfits]

/-- Settles O18: within the bound DECODE answers what `decodePacket` gives, and the statement's slice is the
model's `packet[2 .. last-1]`. -/
theorem decodeChecksInOrder : Obligations.DecodeChecksInOrder := by
  refine ⟨decodeRequest_sel2, fun s p hfits => ?_⟩
  rw [← payloadSlice_eq p]
  refine ⟨fun hshort => ?short, fun hlen hhead => ?header, fun n hlen hhead hn hfield => ?lengthField,
    fun n hlen hhead hn hfield hcrc => ?crc, fun n hlen hhead hn hfield hcrc => ⟨?valid, ?sliceLength⟩⟩
  case short => exact exec_decode_accepted hfits (decodePacket_of_short hshort)
  case header => exact exec_decode_accepted hfits (decodePacket_of_header_ne hlen hhead)
  case lengthField =>
    exact exec_decode_accepted hfits (decodePacket_of_lengthField_ne hlen hhead hn hfield)
  case crc => exact exec_decode_accepted hfits (decodePacket_of_crc_ne hlen hhead hn hfield hcrc)
  case valid => exact exec_decode_accepted hfits (decodePacket_of_valid hlen hhead hn hfield hcrc)
  case sliceLength => exact (payloadSlice_length p).trans hfield.symm

/-! ENCODE on both sides of `MAX_PAYLOAD` (R120). -/

theorem exec_encode_of_le {s : State} {p : List Byte}
    (hfits : bulkFits s.config.maxBulkInput p.length = true) (h : p.length ≤ s.config.maxPayload.val) :
    exec (.encode p) s = .next (s.respond .ok none (frame p)) :=
  exec_encode_accepted hfits (if_neg (Nat.not_lt.mpr h))

theorem exec_encode_of_lt {s : State} {p : List Byte}
    (hfits : bulkFits s.config.maxBulkInput p.length = true) (h : s.config.maxPayload.val < p.length) :
    exec (.encode p) s = .next (s.respond .lengthError none []) :=
  exec_encode_accepted hfits (if_pos h)

/-- R121: the default parameters bound no operand. -/
theorem bulkFits_of_config_default {s : State} (h : s.config = Config.default) (n : Nat) :
    bulkFits s.config.maxBulkInput n = true := by
  rw [h]
  rfl

/-- Settles O16: the two sides of `MAX_PAYLOAD`, which cover the corner cases of R121; their result
bytes are the model's, evaluated. -/
theorem encodeFramesOrLengthError : Obligations.EncodeFramesOrLengthError := by
  refine ⟨decodeRequest_sel1, fun s p hfits => ⟨exec_encode_of_le hfits, exec_encode_of_lt hfits⟩,
    fun s hcfg => ?corners⟩
  have hfits := bulkFits_of_config_default hcfg
  have hmax : s.config.maxPayload.val = 32 := by
    rw [hcfg]
    rfl
  refine ⟨?empty, ?one, ?above, ?largest⟩
  case empty => exact exec_encode_of_le (hfits 0) (by simp)
  case one =>
    have hbytes : frame [0x01] = [0xD5, 0x01, 0x01, 0x5E] := by decide
    exact hbytes ▸ exec_encode_of_le (hfits 1) (by simp [hmax])
  case above => exact exec_encode_of_lt (hfits _) (by simp [hmax])
  case largest =>
    have hbytes : frame (List.replicate 32 0x00) = [0xD5, 0x20] ++ List.replicate 32 0x00 ++ [0x00] := by
      rw [frame, checksum_replicate_zero]
      rfl
    exact hbytes ▸ exec_encode_of_le (hfits _) (by simp [hmax])

end Sys2Proof.Machine
end

section
/-!
PROOFS. Errors keep the registers (spec/42_stream_decoder.md R151): an operation's response either leaves
everything else as it was, or carries status OK.
-/

namespace Sys2Proof.Machine

/-- What an operation from `s` can answer: a response of any status and nothing else changed, a response of
status OK after whatever it wrote, or no response. -/
inductive Answers (s : State) : State → Prop where
  | inPlace (st : Status) (tag : Option StateTag) (result : List Byte) : Answers s (s.respond st tag result)
  | okAfter (u : State) (hu : u.responses = s.responses) (tag : Option StateTag) (result : List Byte) :
      Answers s (u.respond .ok tag result)
  | silent {t : State} (ht : t.responses = s.responses) : Answers s t

theorem answers_bulkReply (s : State) (operand : List Byte) (reply : Status × List Byte) :
    Answers s (bulkReply s operand reply) := by
  obtain h | h := bulkReply_cases s operand reply <;> rw [h]
  · exact .inPlace reply.1 none reply.2
  · exact .silent rfl

/-- R151 for the transition: an error leaves the registers as they were. -/
theorem recvByte_error_keeps {cfg : Config} {b : Byte} {d d' : StreamDecoder} {st : Status}
    (h : recvByte cfg b d = .done st d') (hst : st ≠ .ok) : d' = d := by
  obtain ⟨_, -, he⟩ | ⟨-, he⟩ | ⟨-, -, he⟩ | ⟨_, -, -, he⟩ | ⟨-, -, he⟩ | ⟨_, he⟩ :=
    recvByte_cases cfg b d <;> cases he.symm.trans h
  · rfl
  all_goals exact absurd rfl hst

theorem answers_finishRecv (s : State) (b : Byte) :
    Answers s (finishRecv s (recvByte s.config b s.sd)) := by
  obtain ⟨st, d, hend, h⟩ | ⟨f, -, h⟩ := finishRecv_cases s (recvByte s.config b s.sd) <;> rw [h]
  · by_cases hst : st = .ok
    · subst hst
      exact .okAfter (s.setSd d) (State.setSd_responses s d) (some d.state) []
    · obtain rfl : d = s.sd := recvByte_error_keeps hend hst
      exact .inPlace st (some s.sd.state) []
  · exact .silent rfl

theorem exec_sdResult_of_ready {s : State} (h : s.sd.state = .payloadReady) :
    exec .sdResult s = .next (s.respond .ok (some .payloadReady) s.sd.payload) := by
  simp [exec, execSdResult, h]

theorem exec_sdResult_of_not_ready {s : State} (h : s.sd.state ≠ .payloadReady) :
    exec .sdResult s = .next (s.recordFault .resultNotReady) := by
  simp [exec, execSdResult, h]

theorem exec_answers (i : Instr) (s : State) : ∃ t, exec i s = .next t ∧ Answers s t := by
  cases i with
  | checksum data => exact ⟨_, exec_checksum_eq_bulkReply data s, answers_bulkReply ..⟩
  | encode payload => exact ⟨_, exec_encode_eq_bulkReply payload s, answers_bulkReply ..⟩
  | decode packet => exact ⟨_, exec_decode_eq_bulkReply packet s, answers_bulkReply ..⟩
  | sdNew => exact ⟨_, rfl, .okAfter (s.setSd (freshDecoder s.config s.draws)).nextDraw (by simp) _ []⟩
  | sdRecv b => exact ⟨_, rfl, answers_finishRecv s b⟩
  | sdResult =>
    by_cases hready : s.sd.state = .payloadReady
    · exact ⟨_, exec_sdResult_of_ready hready, .inPlace .ok (some .payloadReady) s.sd.payload⟩
    · exact ⟨_, exec_sdResult_of_not_ready hready, .silent rfl⟩

/-- Settles O39: of the three kinds of answer, only the one that changes nothing else carries an error. -/
theorem errorsChangeNoRegister : Obligations.ErrorsChangeNoRegister := by
  intro i s t r hexec hresp hstatus
  obtain ⟨u, hu, hanswers⟩ := exec_answers i s
  obtain rfl : u = t := Host.Outcome.next.inj (hu.symm.trans hexec)
  cases hanswers with
  | inPlace st tag result => rw [← hresp]; rfl
  | okAfter u hsame tag result =>
    obtain rfl : { status := .ok, state := tag, result := result } = r := by simpa [hsame] using hresp
    exact absurd rfl hstatus
  | silent hsame => simp [hsame] at hresp

end Sys2Proof.Machine
end

section
/-!
PROOFS. SD_RECV, arm by arm (spec/42_stream_decoder.md R143 to R150): the transition in each case of each state,
what it makes of the machine's state, and what the invariants of spec/10_state.md R25 say in a state.
-/

namespace Sys2Proof.Machine

/-! The transition. -/

section
variable {cfg : Config} {b n : Byte} {d : StreamDecoder}

theorem recvByte_header_of_ne (hd : d.state = .waitForHeader) (hb : b ≠ header) :
    recvByte cfg b d = .done .headerError d := by
  simp [recvByte, recvHeader, hd, hb]

theorem recvByte_header_of_eq (hd : d.state = .waitForHeader) (hb : b = header) :
    recvByte cfg b d = .done .ok { d with state := .waitForLength } := by
  simp [recvByte, recvHeader, hd, hb]

theorem recvByte_length_of_lt (hd : d.state = .waitForLength) (hb : cfg.maxPayload.val < b.toNat) :
    recvByte cfg b d = .done .lengthFieldError d := by
  simp [recvByte, recvLength, hd, hb]

theorem recvByte_length_of_pos (hd : d.state = .waitForLength) (hpos : 1 ≤ b.toNat)
    (hb : b.toNat ≤ cfg.maxPayload.val) :
    recvByte cfg b d = .done .ok { d with explen := some b, state := .waitForData } := by
  have hne : b ≠ 0#8 := by
    rintro rfl
    exact absurd hpos (by decide)
  simp [recvByte, recvLength, hd, hne, Nat.not_lt.mpr hb]

theorem recvByte_length_zero_accept (hd : d.state = .waitForLength)
    (hcfg : cfg.zeroLengthStream = .accept) :
    recvByte cfg 0x00 d = .done .ok { d with explen := some 0x00, state := .waitForCrc } := by
  simp [recvByte, recvLength, hd, hcfg]

theorem recvByte_length_zero_fault (hd : d.state = .waitForLength)
    (hcfg : cfg.zeroLengthStream = .fault) :
    recvByte cfg 0x00 d = .modelFault .zeroLengthStream := by
  simp [recvByte, recvLength, hd, hcfg]

/-- R147: the byte that reaches `sd.explen` moves on, any other stays. -/
theorem recvByte_data (hd : d.state = .waitForData) (hn : d.explen = some n) :
    recvByte cfg b d = .done .ok { appendByte b d with
      state := if d.count + 1 = n.toNat then .waitForCrc else .waitForData } := by
  simp only [recvByte, recvData, hd, hn]
  split
  · rfl
  · rw [← hd]
    rfl

theorem recvByte_crc_of_ne (hd : d.state = .waitForCrc) (hb : b ≠ checksum d.payload) :
    recvByte cfg b d = .done .crcError d := by
  simp [recvByte, recvCrc, hd, hb]

theorem recvByte_crc_of_eq (hd : d.state = .waitForCrc) (hb : b = checksum d.payload) :
    recvByte cfg b d = .done .ok { d with state := .payloadReady } := by
  simp [recvByte, recvCrc, hd, hb]

theorem recvByte_ready (hd : d.state = .payloadReady) :
    recvByte cfg b d = .modelFault .undefinedFeed := by
  simp [recvByte, hd]

end

/-! What the machine makes of it. -/

theorem exec_sdRecv_of_done {s : State} {b : Byte} {st : Status} {d : StreamDecoder}
    (h : recvByte s.config b s.sd = .done st d) :
    exec (.sdRecv b) s = .next ((s.setSd d).respond st (some d.state) []) := by
  rw [exec, execSdRecv, h, finishRecv_done]

/-- An SD_RECV that keeps the registers only answers. -/
theorem exec_sdRecv_of_done_same {s : State} {b : Byte} {st : Status} {tag : StateTag}
    (htag : s.sd.state = tag) (h : recvByte s.config b s.sd = .done st s.sd) :
    exec (.sdRecv b) s = .next (s.respond st (some tag) []) :=
  htag ▸ exec_sdRecv_of_done h

theorem exec_sdRecv_of_modelFault {s : State} {b : Byte} {f : ModelFault}
    (h : recvByte s.config b s.sd = .modelFault f) :
    exec (.sdRecv b) s = .next (s.recordFault f) := by
  rw [exec, execSdRecv, h, finishRecv_modelFault]

theorem runInstrs_cons_of_next {i : Instr} {s t : State} (is : List Instr) (h : exec i s = .next t) :
    runInstrs (i :: is) s = runInstrs is t := by
  simp [runInstrs, h]

/-! The invariants, state by state. -/

theorem State.inv_iff (s : State) :
    s.inv = true ↔ s.sd.buf.length = s.config.maxPayload.val ∧
      explenBounded s.config s.sd.explen = true ∧ s.sd.tagInv s.config = true := by
  simp [State.inv, StreamDecoder.inv, and_assoc]

theorem count_eq_zero_of_inv {s : State} (hs : s.sd.state = .waitForLength) (h : s.inv = true) :
    s.sd.count = 0 := by
  obtain ⟨-, -, htag⟩ := s.inv_iff.mp h
  simpa [StreamDecoder.tagInv, hs] using htag

/-- R147 "the index is inside the buffer". -/
theorem count_lt_buf_length_of_inv {s : State} (hs : s.sd.state = .waitForData) (h : s.inv = true) :
    s.sd.count < s.sd.buf.length := by
  obtain ⟨hbuf, -, htag⟩ := s.inv_iff.mp h
  cases hn : s.sd.explen with
  | none => simp [StreamDecoder.tagInv, hs, hn] at htag
  | some n =>
    have hrange : (1 ≤ n.toNat ∧ n.toNat ≤ s.config.maxPayload.val) ∧ s.sd.count < n.toNat := by
      simpa [StreamDecoder.tagInv, hs, hn] using htag
    omega

end Sys2Proof.Machine
end

section
/-!
PROOFS. The stream decoder's operations, state by state (spec/42_stream_decoder.md R140 to R152).
-/

namespace Sys2Proof.Machine

/-- U5: whatever the draw, a fresh decoder has the same specified contents. -/
theorem freshDecoder_specified (cfg : Config) (draw : Nat) :
    (freshDecoder cfg draw).specified = (.waitForHeader, none, 0, []) := by
  simp [StreamDecoder.specified]

/-- Settles O23: SD_NEW puts a fresh decoder in place, and a second one another with the same specified
contents. -/
theorem sdNewMakesFreshDecoder : Obligations.SdNewMakesFreshDecoder := by
  refine ⟨decodeRequest_sel3 [], fun s => ⟨_, rfl, rfl, rfl, rfl, freeBuf_length .., rfl, rfl, rfl, rfl, rfl,
    _, rfl, ?again⟩⟩
  case again => exact (freshDecoder_specified ..).trans (freshDecoder_specified ..).symm

/-- Settles O26: the two cases of the arm. -/
theorem recvInWaitForHeader : Obligations.RecvInWaitForHeader := fun _ _ hs =>
  ⟨fun hb => exec_sdRecv_of_done_same hs (recvByte_header_of_ne hs hb),
    fun hb => exec_sdRecv_of_done (recvByte_header_of_eq hs hb)⟩

/-- Settles O27: the first check of the arm. -/
theorem recvLengthAboveMaximum : Obligations.RecvLengthAboveMaximum := fun _ _ hs hb =>
  exec_sdRecv_of_done_same hs (recvByte_length_of_lt hs hb)

/-- Settles O28: the last case of the arm; the count is the invariant's. -/
theorem recvLengthInRange : Obligations.RecvLengthInRange := fun _ _ hs hpos hb =>
  ⟨exec_sdRecv_of_done (recvByte_length_of_pos hs hpos hb), count_eq_zero_of_inv hs⟩

/-- Settles O30: the append; under the invariants there is room for it. -/
theorem recvAppendsData : Obligations.RecvAppendsData := by
  intro s b n hs hn
  refine ⟨?append, fun hinv => ?inside⟩
  case append =>
    rw [exec_sdRecv_of_done (recvByte_data hs hn), ← hn]
    rfl
  case inside =>
    have hroom := count_lt_buf_length_of_inv hs hinv
    exact ⟨hroom, appendByte_payload s.sd b hroom⟩

/-- Settles O31: the two cases of the arm; the payload is by definition `sd.buf[0 .. sd.count-1]`. -/
theorem recvComparesCrc : Obligations.RecvComparesCrc := fun _ _ hs =>
  ⟨fun hb => exec_sdRecv_of_done_same hs (recvByte_crc_of_ne hs hb),
    fun hb => exec_sdRecv_of_done (recvByte_crc_of_eq hs hb)⟩

/-- Settles O32: the arm's one case; the record that every step keeps. -/
theorem recvAfterReadyIsUndefinedFeed : Obligations.RecvAfterReadyIsUndefinedFeed := by
  refine ⟨fun s b hs => exec_sdRecv_of_modelFault (recvByte_ready hs), fun s t hstep hmem => ?_⟩
  obtain ⟨hkept, -⟩ := recordsAreNeverCleared.2 s t hstep
  exact hkept.subset hmem

/-- Settles O34: SD_RESULT on both sides of `PAYLOAD_READY`; what it answers keeps the registers, so it
answers again. -/
theorem sdResultReadsPayload : Obligations.SdResultReadsPayload := by
  refine ⟨decodeRequest_sel5 [], fun s => ⟨fun hready => ⟨exec_sdResult_of_ready hready, ?twice⟩,
    exec_sdResult_of_not_ready⟩⟩
  have hagain : (s.respond .ok (some .payloadReady) s.sd.payload).sd.state = .payloadReady := hready
  rw [runInstrs_cons_of_next _ (exec_sdResult_of_ready hready),
    runInstrs_cons_of_next _ (exec_sdResult_of_ready hagain)]
  simp [runInstrs, State.respond, StreamDecoder.payload]

/-- R149 and R152: the checksum byte makes the payload ready, and SD_RESULT reads it. -/
theorem runInstrs_crc_result {s : State} {b : Byte} (hs : s.sd.state = .waitForCrc)
    (hb : b = checksum s.sd.payload) :
    ∃ t, runInstrs [.sdRecv b, .sdResult] s = .next t ∧ t.sd.state = .payloadReady ∧
      t.responses = s.responses ++ [{ status := .ok, state := some .payloadReady, result := [] },
        { status := .ok, state := some .payloadReady, result := s.sd.payload }] := by
  rw [runInstrs_cons_of_next _ (exec_sdRecv_of_done (recvByte_crc_of_eq hs hb)),
    runInstrs_cons_of_next _ (exec_sdResult_of_ready rfl)]
  exact ⟨_, rfl, rfl, by simp [payload_mk_state]⟩

/-- R146, the empty packet: under the invariants the payload is empty, so the checksum byte is 0x00. -/
theorem runInstrs_empty_packet {s : State} (hs : s.sd.state = .waitForLength)
    (hcfg : s.config.zeroLengthStream = .accept) (hinv : s.inv = true) :
    ∃ t, runInstrs [.sdRecv 0x00, .sdRecv 0x00, .sdResult] s = .next t ∧ t.sd.state = .payloadReady ∧
      t.responses = s.responses ++ [{ status := .ok, state := some .waitForCrc, result := [] },
        { status := .ok, state := some .payloadReady, result := [] },
        { status := .ok, state := some .payloadReady, result := [] }] := by
  have hempty : s.sd.payload = [] := payload_of_count_zero _ (count_eq_zero_of_inv hs hinv)
  have hcrc : (0x00 : Byte) = checksum s.sd.payload := by rw [hempty, checksum_nil]
  rw [runInstrs_cons_of_next _ (exec_sdRecv_of_done (recvByte_length_zero_accept hs hcfg))]
  obtain ⟨t, hrun, hready, hresp⟩ := runInstrs_crc_result
    (s := (s.setSd { s.sd with state := .waitForCrc, explen := some 0x00 }).respond .ok
      (some .waitForCrc) []) rfl hcrc
  exact ⟨t, hrun, hready, by simp [hresp, payload_mk, hempty]⟩

/-- Settles O29: the two cases of the arm, and the run of the empty packet. -/
theorem recvLengthZero : Obligations.RecvLengthZero := fun _ hs =>
  ⟨fun hcfg =>
      ⟨exec_sdRecv_of_done (recvByte_length_zero_accept hs hcfg), runInstrs_empty_packet hs hcfg⟩,
    fun hcfg => exec_sdRecv_of_modelFault (recvByte_length_zero_fault hs hcfg)⟩

end Sys2Proof.Machine
end

section
/-!
PROOFS. Refusals (spec/60_exceptions.md R206): a request that is not illegal is the request of an operation,
and an operation is refused exactly when its operand is over the bulk bound.
-/

namespace Sys2Proof

/-- R71: the request of an operation decodes to it, by the decoder's lemma of its selector. -/
@[simp] theorem decodeRequest_encodeRequest (i : Instr) : decodeRequest (encodeRequest i) = .ok i := by
  cases i with
  | checksum data => exact decodeRequest_sel0 data
  | encode payload => exact decodeRequest_sel1 payload
  | decode packet => exact decodeRequest_sel2 packet
  | sdNew => exact decodeRequest_sel3 []
  | sdRecv b => exact decodeRequest_sel4 [b]
  | sdResult => exact decodeRequest_sel5 []

end Sys2Proof

namespace Sys2Proof.Machine

/-! Requests that are not illegal. -/

/-- R75 names every request that is no operation's: what is left are the six low selectors, each with an
operand of its shape. -/
theorem exists_eq_encodeRequest_of_legal {r : Request} (h : illegalRequest r = false) :
    ∃ i, r = encodeRequest i := by
  obtain ⟨sel, ops⟩ := r
  have hlegal := mt (illegalRequest_iff ⟨sel, ops⟩).mpr (ne_true_of_eq_false h)
  push Not at hlegal
  obtain ⟨hlow, hne6, hne7, hempty, honeByte⟩ := hlegal
  obtain rfl | rfl | rfl | rfl | rfl | rfl :
      sel = 0 ∨ sel = 1 ∨ sel = 2 ∨ sel = 3 ∨ sel = 4 ∨ sel = 5 := by bv_omega
  · exact ⟨.checksum ops, rfl⟩
  · exact ⟨.encode ops, rfl⟩
  · exact ⟨.decode ops, rfl⟩
  · obtain rfl : ops = [] := hempty (.inl rfl)
    exact ⟨.sdNew, rfl⟩
  · obtain ⟨b, rfl⟩ := List.length_eq_one_iff.mp (honeByte rfl)
    exact ⟨.sdRecv b, rfl⟩
  · obtain rfl : ops = [] := hempty (.inr rfl)
    exact ⟨.sdResult, rfl⟩

/-- R12 on requests is well-formedness on operations. -/
theorem overBulkRequest_encodeRequest (cfg : Config) (i : Instr) :
    overBulkRequest cfg (encodeRequest i) = !i.wellFormed cfg := by
  cases i <;> rfl

theorem step_of_encodeRequest {s : State} {i : Instr} {rest : List Request}
    (hq : s.requests = encodeRequest i :: rest) : step s = exec i (s.setRequests rest) := by
  simp [step, hq]

/-! Which operations are refused. A refusal gives no response and records no fault. -/

theorem State.respond_ne_refuse {s u : State} {st : Status} {tag : Option StateTag} {result : List Byte}
    (h : u.responses = s.responses) : u.respond st tag result ≠ s.refuse := fun heq => by
  simpa [h] using congrArg State.responses heq

theorem State.recordFault_ne_refuse (s : State) (f : ModelFault) : s.recordFault f ≠ s.refuse := by
  intro heq
  simpa using congrArg State.faultRecord heq

theorem bulkReply_eq_refuse_iff (s : State) (operand : List Byte) (reply : Status × List Byte) :
    bulkReply s operand reply = s.refuse ↔ bulkFits s.config.maxBulkInput operand.length = false := by
  refine ⟨fun heq => ?_, bulkReply_refused s operand reply⟩
  by_contra hfits
  rw [bulkReply_accepted s operand reply (eq_true_of_ne_false hfits)] at heq
  exact State.respond_ne_refuse rfl heq

theorem finishRecv_ne_refuse (s : State) (e : RecvEnd) : finishRecv s e ≠ s.refuse := by
  obtain ⟨st, d, -, h⟩ | ⟨f, -, h⟩ := finishRecv_cases s e <;> rw [h]
  · exact State.respond_ne_refuse (State.setSd_responses s d)
  · exact State.recordFault_ne_refuse s f

/-- R206 for operations: the stream decoder's are never refused, a bulk one exactly above the bound. -/
theorem exec_eq_refuse_iff (i : Instr) (s : State) :
    exec i s = .next s.refuse ↔ i.wellFormed s.config = false := by
  cases i with
  | checksum data => simp [exec_checksum_eq_bulkReply, bulkReply_eq_refuse_iff, Instr.wellFormed]
  | encode payload => simp [exec_encode_eq_bulkReply, bulkReply_eq_refuse_iff, Instr.wellFormed]
  | decode packet => simp [exec_decode_eq_bulkReply, bulkReply_eq_refuse_iff, Instr.wellFormed]
  | sdNew =>
    have hkept : (s.setSd (freshDecoder s.config s.draws)).nextDraw.responses = s.responses := rfl
    simp [exec, execSdNew, State.respond_ne_refuse hkept, Instr.wellFormed]
  | sdRecv b => simp [exec, execSdRecv, finishRecv_ne_refuse, Instr.wellFormed]
  | sdResult =>
    by_cases hready : s.sd.state = .payloadReady
    · simp [exec_sdResult_of_ready hready, State.respond_ne_refuse, Instr.wellFormed]
    · simp [exec_sdResult_of_not_ready hready, State.recordFault_ne_refuse, Instr.wellFormed]

/-- Settles O7: an illegal request is refused; any other is an operation's, refused exactly when its operand
is over the bound; and no step clears the mark. -/
theorem refusalsAreExactlyTheThreeKinds : Obligations.RefusalsAreExactlyTheThreeKinds := by
  refine ⟨fun s r rest hq => ?kinds, fun s t hstep => (recordsAreNeverCleared.2 s t hstep).2⟩
  case kinds =>
    cases hillegal : illegalRequest r with
    | true =>
      have hrefused := illegalRequestIsRefused s r rest hq ((illegalRequest_iff r).mp hillegal)
      exact iff_of_true hrefused (.inl rfl)
    | false =>
      obtain ⟨i, rfl⟩ := exists_eq_encodeRequest_of_legal hillegal
      rw [step_of_encodeRequest hq, overBulkRequest_encodeRequest, Bool.not_eq_true',
        or_iff_right Bool.false_ne_true]
      exact exec_eq_refuse_iff i (s.setRequests rest)

end Sys2Proof.Machine
end

section
/-!
PROOFS. Model faults (spec/60_exceptions.md R205): which operation records which fault, and in which state.
-/

namespace Sys2Proof.Machine

/-! What a recorded fault shows. -/

theorem ne_recordFault_of_faultRecord_eq {s t : State} (h : t.faultRecord = s.faultRecord) (f : ModelFault) :
    t ≠ s.recordFault f := fun heq => by
  simpa [h] using congrArg State.faultRecord heq

theorem State.recordFault_inj {s : State} {f g : ModelFault} : s.recordFault f = s.recordFault g ↔ f = g :=
  ⟨fun heq => by simpa using congrArg State.faultRecord heq, fun h => h ▸ rfl⟩

theorem finishRecv_eq_recordFault_iff (s : State) (e : RecvEnd) (f : ModelFault) :
    finishRecv s e = s.recordFault f ↔ e = .modelFault f := by
  cases e with
  | done st d =>
    have hkept : (finishRecv s (.done st d)).faultRecord = s.faultRecord := rfl
    simpa using ne_recordFault_of_faultRecord_eq hkept f
  | modelFault g => simp [State.recordFault_inj]

/-! Which operation records a fault. -/

theorem exec_sdRecv_eq_recordFault_iff (b : Byte) (s : State) (f : ModelFault) :
    exec (.sdRecv b) s = .next (s.recordFault f) ↔ recvByte s.config b s.sd = .modelFault f := by
  simpa [exec, execSdRecv] using finishRecv_eq_recordFault_iff ..

theorem exec_sdResult_eq_recordFault_iff (s : State) (f : ModelFault) :
    exec .sdResult s = .next (s.recordFault f) ↔ f = .resultNotReady ∧ s.sd.state ≠ .payloadReady := by
  by_cases hready : s.sd.state = .payloadReady
  · have hkept := s.respond_faultRecord .ok (some .payloadReady) s.sd.payload
    simpa [exec_sdResult_of_ready hready, hready] using ne_recordFault_of_faultRecord_eq hkept f
  · simp [exec_sdResult_of_not_ready hready, hready, State.recordFault_inj, eq_comm]

theorem bulkReply_faultRecord (s : State) (operand : List Byte) (reply : Status × List Byte) :
    (bulkReply s operand reply).faultRecord = s.faultRecord := by
  obtain h | h := bulkReply_cases s operand reply <;> rw [h]
  · exact State.respond_faultRecord s ..
  · exact State.refuse_faultRecord s

/-- R205: no operation but SD_RECV and SD_RESULT records a fault; the others keep the record as it is. -/
theorem exec_ne_recordFault {i : Instr} (hrecv : ∀ b, i ≠ .sdRecv b) (hresult : i ≠ .sdResult)
    (s : State) (f : ModelFault) : exec i s ≠ .next (s.recordFault f) := by
  obtain ⟨t, ht, hkept⟩ : ∃ t, exec i s = .next t ∧ t.faultRecord = s.faultRecord := by
    cases i with
    | checksum data => exact ⟨_, exec_checksum_eq_bulkReply data s, bulkReply_faultRecord ..⟩
    | encode payload => exact ⟨_, exec_encode_eq_bulkReply payload s, bulkReply_faultRecord ..⟩
    | decode packet => exact ⟨_, exec_decode_eq_bulkReply packet s, bulkReply_faultRecord ..⟩
    | sdNew => exact ⟨_, rfl, by simp⟩
    | sdRecv b => exact absurd rfl (hrecv b)
    | sdResult => exact absurd rfl hresult
  simpa [ht] using ne_recordFault_of_faultRecord_eq hkept f

/-! Which fault SD_RECV records, and where. -/

theorem explen_ne_none_of_inv {s : State} (hs : s.sd.state = .waitForData) (h : s.inv = true) :
    s.sd.explen ≠ none := by
  obtain ⟨-, -, htag⟩ := s.inv_iff.mp h
  intro hnone
  simp [StreamDecoder.tagInv, hs, hnone] at htag

/-- R205: the two arms of the transition that fault; a third (U4) only where `sd.explen` is unwritten in
`WAIT_FOR_DATA`, which the invariants exclude. -/
theorem recvByte_eq_modelFault_iff {b : Byte} {s : State} {f : ModelFault}
    (h : s.inv = true ∨ f ≠ .explenUnwritten) :
    recvByte s.config b s.sd = .modelFault f ↔
      (f = .undefinedFeed ∧ s.sd.state = .payloadReady) ∨
      (f = .zeroLengthStream ∧ s.sd.state = .waitForLength ∧ b = 0x00 ∧
        s.config.zeroLengthStream = .fault) := by
  constructor
  · intro hfault
    obtain hfeed | hzero | ⟨rfl, hdata, hnone⟩ := recvByte_modelFault _ b s.sd f hfault
    · exact .inl hfeed
    · exact .inr hzero
    · exact absurd hnone (explen_ne_none_of_inv hdata (h.resolve_right (by simp)))
  · rintro (⟨rfl, hready⟩ | ⟨rfl, hlength, rfl, hcfg⟩)
    · exact recvByte_ready hready
    · exact recvByte_length_zero_fault hlength hcfg

/-- Settles O41: SD_RECV and SD_RESULT record exactly these faults, any other operation none; and every step
keeps the record. -/
theorem modelFaultsAreExactlyTheThree : Obligations.ModelFaultsAreExactlyTheThree := by
  refine ⟨fun i s f h => ?faults, fun s t hstep => (recordsAreNeverCleared.2 s t hstep).1⟩
  case faults =>
    change exec i s = .next (s.recordFault f) ↔ _
    cases i with
    | sdRecv b =>
      rw [exec_sdRecv_eq_recordFault_iff, recvByte_eq_modelFault_iff h]
      simp
    | sdResult =>
      rw [exec_sdResult_eq_recordFault_iff]
      simp
    | checksum _ | encode _ | decode _ | sdNew =>
      simpa using exec_ne_recordFault (by simp) (by simp) s f

end Sys2Proof.Machine
end

section
/-!
PROOFS. Power-on reset and SD_NEW (spec/70_reset_and_hazards.md R250).
-/

namespace Sys2Proof.Machine

/-- R140: the registers after SD_NEW are a fresh decoder's. -/
theorem exec_sdNew_sd {s t : State} (h : exec .sdNew s = .next t) : t.sd = freshDecoder s.config s.draws := by
  obtain rfl := Host.Outcome.next.inj h
  simp

/-- R34: at power-on nothing is received, so no byte of the buffer belongs to the payload. -/
theorem StreamDecoder.reset_specified (cfg : Config) :
    (StreamDecoder.reset cfg).specified = (.waitForHeader, none, 0, []) := by
  simp [StreamDecoder.specified]

/-- Settles O24: a fresh decoder and the registers at power-on have the same specified contents, whatever the
parameters of either. -/
theorem powerOnIsWhatSdNewLeaves : Obligations.PowerOnIsWhatSdNewLeaves := by
  refine ⟨StreamDecoder.reset_state _, StreamDecoder.reset_count _, StreamDecoder.reset_explen _,
    fun s t hexec => ?same⟩
  case same =>
    calc t.sd.specified
      _ = (freshDecoder s.config s.draws).specified := by rw [exec_sdNew_sd hexec]
      _ = (.waitForHeader, none, 0, []) := freshDecoder_specified ..
      _ = State.reset.sd.specified := (StreamDecoder.reset_specified Config.default).symm

end Sys2Proof.Machine
end

section
/-!
PROOFS. Requests and single steps (spec/30_encoding.md R70, R71; spec/20_memory.md R47): the encoding read back in
both directions, the table's words, and what a step does with the next request.
-/

namespace Sys2Proof.Machine

/-- R71 and R75: what decodes is not illegal, so it is an operation's request, and decodes to that one. -/
theorem eq_encodeRequest_of_decodeRequest {r : Request} {i : Instr} (h : decodeRequest r = .ok i) :
    r = encodeRequest i := by
  have hlegal : illegalRequest r = false := by
    by_contra hillegal
    obtain ⟨e, he⟩ := decodeRequest_of_illegalRequest (eq_true_of_ne_false hillegal)
    cases he.symm.trans h
  obtain ⟨j, rfl⟩ := exists_eq_encodeRequest_of_legal hlegal
  obtain rfl : j = i := Except.ok.inj ((decodeRequest_encodeRequest j).symm.trans h)
  rfl

/-- Settles O3: what decodes is an encoding, and the encoding of an operation decodes to it. -/
theorem decodeEncodeAgree : Obligations.DecodeEncodeAgree := fun _ i =>
  ⟨eq_encodeRequest_of_decodeRequest, fun h => h ▸ decodeRequest_encodeRequest i⟩

/-- Settles O2: each word's request, evaluated. -/
theorem tableWordsDecode : Obligations.TableWordsDecode := by
  refine ⟨?_, ?_, ?_, ?_, ?_, ?_⟩ <;> decide

/-- Settles O4: what decodes is the operation's request, which a step runs with the rest of the queue left. -/
theorem stepRunsDecodedRequest : Obligations.StepRunsDecodedRequest := by
  intro s r rest i hq hr
  exact step_of_encodeRequest (hq.trans (congrArg (· :: rest) (eq_encodeRequest_of_decodeRequest hr)))

/-- Settles O5: the empty queue is the idle case of a step. -/
theorem idleStepKeepsState : Obligations.IdleStepKeepsState := by
  intro s hq
  obtain ⟨-, hidle⟩ | ⟨r, rest, -, hcons, -⟩ := step_cases s
  · exact hidle
  · cases hq.symm.trans hcons

end Sys2Proof.Machine
end

section
/-!
PROOFS. What every step keeps, from the three ways a request can end (`Served`): the responses given and the
parameters, and of the records all but what the ending adds.
-/

namespace Sys2Proof.Machine

theorem Served.config_eq {s t : State} (h : Served s t) : t.config = s.config := by
  cases h <;> rfl

/-- R70, R205, R206: each ending keeps the responses given and touches one of the three records. -/
theorem Served.one_outcome {s t : State} (h : Served s t) :
    s.responses <+: t.responses ∧
    ((∃ resp, t.responses = s.responses ++ [resp] ∧ t.faultRecord = s.faultRecord ∧
      t.refusalMark = s.refusalMark) ∨
    (∃ f, t = s.recordFault f) ∨ t = s.refuse) := by
  cases h with
  | answered d n st tag result => exact ⟨List.prefix_append .., .inl ⟨_, rfl, rfl, rfl⟩⟩
  | faulted f => exact ⟨List.prefix_rfl, .inr (.inl ⟨f, rfl⟩)⟩
  | refused => exact ⟨List.prefix_rfl, .inr (.inr rfl)⟩

/-- A step with a request pending serves it from the state with the rest of the queue. -/
theorem served_of_step {s t : State} {r : Request} {rest : List Request} (hq : s.requests = r :: rest)
    (hstep : step s = .next t) : Served (s.setRequests rest) t := by
  obtain ⟨hnil, -⟩ | ⟨r', rest', u, hcons, hserve, hserved⟩ := step_cases s
  · cases hq.symm.trans hnil
  · cases hq.symm.trans hcons
    obtain rfl : u = t := Host.Outcome.next.inj (hserve.symm.trans hstep)
    exact hserved

/-- Settles O11: the step serves the request, from a state that differs from `s` in the queue alone. -/
theorem oneOutcomePerRequest : Obligations.OneOutcomePerRequest :=
  fun _ _ _ _ hq hstep => (served_of_step hq hstep).one_outcome

/-- Settles O43: an idle step keeps all, and no ending of a request writes the parameters. -/
theorem configurationNeverChanges : Obligations.ConfigurationNeverChanges := by
  intro s t hstep
  obtain ⟨-, hidle⟩ | ⟨r, rest, u, hq, -, -⟩ := step_cases s
  · obtain rfl : s = t := Host.Outcome.next.inj (hidle.symm.trans hstep)
    rfl
  · exact (served_of_step hq hstep).config_eq

end Sys2Proof.Machine
end

section
/-!
PROOFS. The CRC unit (spec/40_crc.md R101 to R106): the table is the bitwise CRC of its index, so it is linear over
XOR, and with no nonzero byte in its kernel it is injective; the properties of Checksum follow byte by byte.
-/

namespace Sys2Proof.Machine

/-! The table and the bitwise form. -/

/-- R103 on the table's own index: 256 evaluations. -/
theorem crcTable_getElem? (k : Byte) : crcTable[k.toNat]? = some (bitcrcRounds 8 k) := by
  revert k
  decide +kernel

theorem crcEntry_eq_bitcrcRounds (k : Byte) : crcEntry k = bitcrcRounds 8 k := by
  rw [crcEntry, List.getD_eq_getElem?_getD, crcTable_getElem?, Option.getD_some]

/-- Settles O14: a table step looks up the XOR that the bitwise step starts from. -/
theorem tableAgreesWithBitwiseCrc : Obligations.TableAgreesWithBitwiseCrc := by
  refine ⟨fun k => ?entry, fun acc b => crcEntry_eq_bitcrcRounds (acc ^^^ b)⟩
  case entry => simp [crcTable_getElem?, bitcrc]

/-! Linear over XOR: the shift is, and the low bits of the two bytes decide whether 0x8C goes in never, once, or
twice and so not at all. -/

theorem bitcrcRound_xor (a b : Byte) : bitcrcRound (a ^^^ b) = bitcrcRound a ^^^ bitcrcRound b := by
  unfold bitcrcRound
  rw [BitVec.getLsbD_xor, BitVec.ushiftRight_xor_distrib]
  cases a.getLsbD 0 <;> cases b.getLsbD 0
  case false.false => rfl
  case false.true => exact BitVec.xor_assoc ..
  case true.false =>
    change a >>> 1 ^^^ b >>> 1 ^^^ 0x8C = a >>> 1 ^^^ 0x8C ^^^ b >>> 1
    ac_rfl
  case true.true =>
    calc a >>> 1 ^^^ b >>> 1
      _ = a >>> 1 ^^^ b >>> 1 ^^^ (0x8C ^^^ 0x8C) := by simp
      _ = a >>> 1 ^^^ 0x8C ^^^ (b >>> 1 ^^^ 0x8C) := by ac_rfl

theorem bitcrcRounds_xor (n : Nat) (a b : Byte) :
    bitcrcRounds n (a ^^^ b) = bitcrcRounds n a ^^^ bitcrcRounds n b := by
  induction n generalizing a b with
  | zero => rfl
  | succ n ih => rw [bitcrcRounds, bitcrcRound_xor, ih, bitcrcRounds, bitcrcRounds]

theorem crcEntry_xor (a b : Byte) : crcEntry (a ^^^ b) = crcEntry a ^^^ crcEntry b := by
  simp only [crcEntry_eq_bitcrcRounds, bitcrcRounds_xor]

/-- R105: the only entry 0x00 of the table is the first. -/
theorem eq_zero_of_crcEntry_eq_zero (a : Byte) (h : crcEntry a = 0) : a = 0 := by
  revert a
  decide +kernel

theorem crcEntry_injective : Function.Injective crcEntry := by
  intro a b h
  have hzero : crcEntry (a ^^^ b) = 0 := by simp [crcEntry_xor, h]
  exact BitVec.xor_eq_zero_iff.mp (eq_zero_of_crcEntry_eq_zero _ hzero)

/-! A table step is injective in the accumulator and in the byte, so a change is never lost. -/

theorem crcStep_injective_left (b : Byte) : Function.Injective (crcStep · b) :=
  fun _ _ h => BitVec.xor_left_inj b |>.mp (crcEntry_injective h)

theorem crcStep_injective_right (acc : Byte) : Function.Injective (crcStep acc) :=
  fun _ _ h => BitVec.xor_right_inj acc |>.mp (crcEntry_injective h)

theorem foldl_crcStep_injective (data : List Byte) : Function.Injective (data.foldl crcStep) := by
  induction data with
  | nil => exact Function.injective_id
  | cons b bs ih => exact ih.comp (crcStep_injective_left b)

/-- R105: the checksum byte brings the accumulator to 0x00. -/
theorem checksum_concat_checksum (data : List Byte) : checksum (data ++ [checksum data]) = 0x00 := by
  rw [checksum_concat, crcStep, BitVec.xor_self]
  rfl

/-- R105, single-byte detection: the accumulators differ after the changed byte and from there on. -/
theorem checksum_append_cons_injective (pre post : List Byte) :
    Function.Injective fun b => checksum (pre ++ b :: post) := by
  intro b c h
  simp only [checksum, List.foldl_append, List.foldl_cons] at h
  exact crcStep_injective_right _ (foldl_crcStep_injective post h)

theorem checksum_set_ne {data : List Byte} {k : Nat} {b : Byte} (hk : k < data.length)
    (hb : data[k]? ≠ some b) : checksum (data.set k b) ≠ checksum data := by
  have hsplit : data.take k ++ data[k] :: data.drop (k + 1) = data := by simp
  rw [List.set_eq_take_append_cons_drop, if_pos hk]
  intro heq
  have hsame : checksum (data.take k ++ b :: data.drop (k + 1)) =
      checksum (data.take k ++ data[k] :: data.drop (k + 1)) := by rw [hsplit, heq]
  obtain rfl : b = data[k] := checksum_append_cons_injective _ _ hsame
  exact hb (List.getElem?_eq_getElem hk)

/-- Settles O13: linearity and injectivity are the table's, the other properties follow from the table step. -/
theorem checksumProperties : Obligations.ChecksumProperties :=
  ⟨checksum_nil, checksum_concat, checksum_concat_checksum, crcEntry_xor, fun _ _ h => crcEntry_injective h,
    fun _ _ _ => checksum_set_ne⟩

/-- Settles O15: the fold of R104, evaluated on each vector. -/
theorem checksumReferenceValues : Obligations.ChecksumReferenceValues := by
  refine ⟨?_, ?_, ?_, ?_, ?_, ?_, ?_, ?_⟩ <;> decide

end Sys2Proof.Machine
end

section
/-!
PROOFS. The response of each operation, when it gives one (spec/30_encoding.md R73): one lemma per operation, from
which follow the fields, the statuses (spec/60_exceptions.md R204), and the same response to the same request
again (spec/20_memory.md R46).
-/

namespace Sys2Proof.Machine

/-! The bulk operations. -/

/-- A bulk reply adds a response only within the bound, and then its own. -/
theorem bulkReply_answered {s : State} {ops : List Byte} {reply : Status × List Byte} {r : Response}
    (h : (bulkReply s ops reply).responses = s.responses ++ [r]) :
    bulkFits s.config.maxBulkInput ops.length = true ∧
      r = { status := reply.1, state := none, result := reply.2 } := by
  cases hfits : bulkFits s.config.maxBulkInput ops.length with
  | false => simp [bulkReply_refused s ops reply hfits] at h
  | true =>
    rw [bulkReply_accepted s ops reply hfits] at h
    exact ⟨rfl, by simpa using h.symm⟩

section
variable {s t : State} {data p : List Byte} {b : Byte} {r : Response}

theorem response_of_exec_checksum (hexec : exec (.checksum data) s = .next t)
    (hresp : t.responses = s.responses ++ [r]) :
    r = { status := .ok, state := none, result := [checksum data] } := by
  obtain rfl := Host.Outcome.next.inj hexec
  exact (bulkReply_answered hresp).2

theorem response_of_exec_encode (hexec : exec (.encode p) s = .next t)
    (hresp : t.responses = s.responses ++ [r]) :
    r = { status := (encodePayload s.config p).1, state := none, result := (encodePayload s.config p).2 } := by
  obtain rfl := Host.Outcome.next.inj hexec
  exact (bulkReply_answered hresp).2

theorem response_of_exec_decode (hexec : exec (.decode p) s = .next t)
    (hresp : t.responses = s.responses ++ [r]) :
    r = { status := (decodePacket p).1, state := none, result := (decodePacket p).2 } := by
  obtain rfl := Host.Outcome.next.inj hexec
  exact (bulkReply_answered hresp).2

/-! The stream decoder's operations. -/

theorem response_of_exec_sdNew (hexec : exec .sdNew s = .next t) (hresp : t.responses = s.responses ++ [r]) :
    r = { status := .ok, state := some .waitForHeader, result := [] } := by
  obtain rfl := Host.Outcome.next.inj hexec
  simpa using hresp.symm

/-- R73: the tag is `sd.state` after the request. -/
theorem response_of_exec_sdRecv (hexec : exec (.sdRecv b) s = .next t)
    (hresp : t.responses = s.responses ++ [r]) :
    ∃ st, recvByte s.config b s.sd = .done st t.sd ∧
      r = { status := st, state := some t.sd.state, result := [] } := by
  obtain rfl := Host.Outcome.next.inj hexec
  obtain ⟨st, d, hend, h⟩ | ⟨f, -, h⟩ := finishRecv_cases s (recvByte s.config b s.sd) <;> rw [h] at hresp ⊢
  · exact ⟨st, hend, by simpa using hresp.symm⟩
  · simp at hresp

/-- R152: SD_RESULT answers in `PAYLOAD_READY` only. -/
theorem response_of_exec_sdResult (hexec : exec .sdResult s = .next t)
    (hresp : t.responses = s.responses ++ [r]) :
    s.sd.state = .payloadReady ∧ t.sd = s.sd ∧
      r = { status := .ok, state := some .payloadReady, result := s.sd.payload } := by
  by_cases hready : s.sd.state = .payloadReady
  · obtain rfl := Host.Outcome.next.inj ((exec_sdResult_of_ready hready).symm.trans hexec)
    exact ⟨hready, rfl, by simpa using hresp.symm⟩
  · obtain rfl := Host.Outcome.next.inj ((exec_sdResult_of_not_ready hready).symm.trans hexec)
    simp at hresp

end

/-! What the codec and the transition can answer. -/

/-- R126 to R130: a packet DECODE accepts passed every check. -/
theorem valid_of_decodePacket_ok {p : List Byte} (h : (decodePacket p).1 = .ok) :
    4 ≤ p.length ∧ p[0]? = some 0xD5 ∧ (∃ n : Byte, p[1]? = some n ∧ n.toNat = p.length - 3) ∧
      p.getLast? = some (checksum (payloadSlice p)) := by
  by_cases hlen : 4 ≤ p.length
  case neg => simp [decodePacket_of_short (Nat.not_le.mp hlen)] at h
  by_cases hhead : p[0]? = some 0xD5
  case neg => simp [decodePacket_of_header_ne hlen hhead] at h
  have hn : p[1]? = some p[1] := List.getElem?_eq_getElem (by omega)
  by_cases hfield : p[1].toNat = p.length - 3
  case neg => simp [decodePacket_of_lengthField_ne hlen hhead hn hfield] at h
  by_cases hcrc : p.getLast? = some (checksum (payloadSlice p))
  case neg => simp [decodePacket_of_crc_ne hlen hhead hn hfield hcrc] at h
  exact ⟨hlen, hhead, ⟨_, hn, hfield⟩, hcrc⟩

theorem decodePacket_ok_result {p : List Byte} (h : (decodePacket p).1 = .ok) :
    (decodePacket p).2 = payloadSlice p := by
  obtain ⟨hlen, hhead, ⟨n, hn, hfield⟩, hcrc⟩ := valid_of_decodePacket_ok h
  rw [decodePacket_of_valid hlen hhead hn hfield hcrc]

/-- R204 for SD_RECV: each of its errors belongs to one state. -/
theorem recvByte_done_status {cfg : Config} {b : Byte} {d d' : StreamDecoder} {st : Status}
    (h : recvByte cfg b d = .done st d') :
    st = .ok ∨ (st = .headerError ∧ d.state = .waitForHeader) ∨
      (st = .lengthFieldError ∧ d.state = .waitForLength) ∨ (st = .crcError ∧ d.state = .waitForCrc) := by
  cases hs : d.state <;> simp only [recvByte, hs] at h
  case waitForHeader =>
    unfold recvHeader at h
    split at h <;> cases h <;> simp
  case waitForLength =>
    unfold recvLength at h
    repeat' split at h
    all_goals cases h <;> simp
  case waitForData =>
    unfold recvData at h
    repeat' split at h
    all_goals cases h <;> simp
  case waitForCrc =>
    unfold recvCrc at h
    split at h <;> cases h <;> simp
  case payloadReady => cases h

/-- Settles O10: the response of each operation, in the cases of the codec. -/
theorem responseFieldsPerOperation : Obligations.ResponseFieldsPerOperation := by
  intro i s t r hexec hresp
  cases i with
  | checksum data => exact response_of_exec_checksum hexec hresp
  | encode p =>
    obtain rfl := response_of_exec_encode hexec hresp
    obtain ⟨-, h⟩ | ⟨-, h⟩ := encodePayload_cases s.config p <;> rw [h]
    · exact ⟨rfl, .inr ⟨rfl, rfl⟩⟩
    · exact ⟨rfl, .inl ⟨rfl, rfl⟩⟩
  | decode p =>
    obtain rfl := response_of_exec_decode hexec hresp
    by_cases hok : (decodePacket p).1 = .ok
    · exact ⟨rfl, .inl ⟨hok, (decodePacket_ok_result hok).trans (payloadSlice_eq p)⟩⟩
    · exact ⟨rfl, .inr ⟨hok, decodePacket_error_result p hok⟩⟩
  | sdNew =>
    obtain rfl := response_of_exec_sdNew hexec hresp
    exact ⟨rfl, by rw [exec_sdNew_sd hexec, freshDecoder_state]⟩
  | sdRecv b =>
    obtain ⟨st, hend, rfl⟩ := response_of_exec_sdRecv hexec hresp
    refine ⟨rfl, rfl, ?noLengthError⟩
    obtain rfl | ⟨rfl, -⟩ | ⟨rfl, -⟩ | ⟨rfl, -⟩ := recvByte_done_status hend <;> simp
  | sdResult =>
    obtain ⟨hready, hsd, rfl⟩ := response_of_exec_sdResult hexec hresp
    exact ⟨rfl, hsd ▸ hready⟩

/-- Settles O40: the status of each operation's response, in the cases of the codec and of the transition. -/
theorem errorsPerOperation : Obligations.ErrorsPerOperation := by
  intro i s t r hexec hresp
  cases i with
  | checksum data => rw [response_of_exec_checksum hexec hresp]
  | encode p =>
    obtain rfl := response_of_exec_encode hexec hresp
    obtain ⟨-, h⟩ | ⟨-, h⟩ := encodePayload_cases s.config p <;> simp [h]
  | decode p => cases hst : r.status <;> simp
  | sdNew => rw [response_of_exec_sdNew hexec hresp]
  | sdRecv b =>
    obtain ⟨st, hend, rfl⟩ := response_of_exec_sdRecv hexec hresp
    exact recvByte_done_status hend
  | sdResult =>
    obtain ⟨-, -, rfl⟩ := response_of_exec_sdResult hexec hresp
    rfl

/-! Operations that write no register (R46, R133). -/

/-- Settles O36: a bulk reply and the two ends of SD_RESULT, field by field. -/
theorem readOnlyOperationsFrame : Obligations.ReadOnlyOperationsFrame := by
  rintro i s t (hbulk | rfl) hexec
  · obtain ⟨ops, reply, hreply⟩ := exec_bulk_eq_bulkReply hbulk s.config
    have hne : i ≠ .sdResult := by
      rintro rfl
      simp at hbulk
    obtain rfl := Host.Outcome.next.inj ((hreply s rfl).symm.trans hexec)
    obtain h | h := bulkReply_cases s ops reply <;> rw [h]
    · exact ⟨rfl, rfl, rfl, rfl, fun _ => rfl, fun _ => rfl, .inr ⟨_, rfl⟩⟩
    · exact ⟨rfl, rfl, rfl, rfl, fun _ => rfl, fun heq => absurd heq hne, .inl rfl⟩
  · by_cases hready : s.sd.state = .payloadReady
    · obtain rfl := Host.Outcome.next.inj ((exec_sdResult_of_ready hready).symm.trans hexec)
      exact ⟨rfl, rfl, rfl, rfl, fun _ => rfl, fun _ => rfl, .inr ⟨_, rfl⟩⟩
    · obtain rfl := Host.Outcome.next.inj ((exec_sdResult_of_not_ready hready).symm.trans hexec)
      exact ⟨rfl, rfl, rfl, rfl, fun hne => absurd rfl hne, fun _ => rfl, .inl rfl⟩

/-- Settles O38: the parameters and the registers, on which the response depends, are as before the first
answer. -/
theorem readOnlyOperationsRepeat : Obligations.ReadOnlyOperationsRepeat := by
  rintro i s t r (hbulk | rfl) hexec hresp
  · obtain ⟨ops, reply, hreply⟩ := exec_bulk_eq_bulkReply hbulk s.config
    obtain rfl := Host.Outcome.next.inj ((hreply s rfl).symm.trans hexec)
    obtain ⟨hfits, rfl⟩ := bulkReply_answered hresp
    rw [bulkReply_accepted s ops reply hfits, hreply (s.respond reply.1 none reply.2) rfl]
    exact congrArg _ (bulkReply_accepted (s.respond reply.1 none reply.2) ops reply hfits)
  · obtain ⟨hready, hsd, rfl⟩ := response_of_exec_sdResult hexec hresp
    rw [← hsd] at hready ⊢
    exact exec_sdResult_of_ready hready

end Sys2Proof.Machine
end

section
/-!
PROOFS. Packets (spec/41_codec.md R120 to R132): DECODE accepts exactly the frames of 1 to 255 payload bytes, so it
gives back what ENCODE framed, and no frame with one byte changed.
-/

namespace Sys2Proof.Machine

/-! The bytes of a frame. -/

theorem frame_eq_cons (q : List Byte) :
    frame q = 0xD5 :: BitVec.ofNat 8 q.length :: (q ++ [checksum q]) := rfl

@[simp] theorem frame_length (q : List Byte) : (frame q).length = q.length + 3 := by
  simp [frame]

@[simp] theorem frame_getLast? (q : List Byte) : (frame q).getLast? = some (checksum q) :=
  List.getLast?_concat

@[simp] theorem payloadSlice_frame (q : List Byte) : payloadSlice (frame q) = q := by
  simp [payloadSlice_eq, frame]

theorem toNat_ofNat_length {q : List Byte} (h : q.length ≤ 255) :
    (BitVec.ofNat 8 q.length).toNat = q.length :=
  (BitVec.toNat_ofNat ..).trans (Nat.mod_eq_of_lt (Nat.lt_succ_of_le h))

/-- R122: header, length, payload and checksum are where R120 puts them. -/
theorem frame_valid {q : List Byte} (h : q.length ≤ 255) :
    (frame q)[0]? = some 0xD5 ∧ ∃ n : Byte, (frame q)[1]? = some n ∧ n.toNat = q.length :=
  ⟨rfl, _, rfl, toNat_ofNat_length h⟩

/-! DECODE and frames. -/

theorem decodePacket_frame {q : List Byte} (hpos : 1 ≤ q.length) (hmax : q.length ≤ 255) :
    decodePacket (frame q) = (.ok, q) := by
  obtain ⟨hhead, n, hn, hfield⟩ := frame_valid hmax
  have hvalid := decodePacket_of_valid (p := frame q) (by simpa using hpos) hhead hn
    (by simpa using hfield) (by simp)
  rwa [payloadSlice_frame] at hvalid

/-- C2: the frame of the empty payload is one byte too short. -/
theorem decodePacket_frame_nil : decodePacket (frame []) = (.lengthError, []) :=
  decodePacket_of_short (by simp)

/-- What passed every check is the frame of its payload slice. -/
theorem eq_frame_payloadSlice {p : List Byte} (h : (decodePacket p).1 = .ok) :
    p = frame (payloadSlice p) := by
  obtain ⟨hlen, hhead, ⟨n, hn, hfield⟩, hcrc⟩ := valid_of_decodePacket_ok h
  obtain ⟨a, b, c, rest, rfl⟩ : ∃ a b c rest, p = a :: b :: c :: rest := by
    match p, hlen with
    | a :: b :: c :: rest, _ => exact ⟨a, b, c, rest, rfl⟩
  obtain rfl : a = 0xD5 := by simpa using hhead
  obtain rfl : b = n := by simpa using hn
  have hslice : payloadSlice (0xD5 :: b :: c :: rest) = (c :: rest).dropLast := by
    simp [payloadSlice_eq, List.dropLast_eq_take]
  rw [hslice, List.getLast?_cons_cons, List.getLast?_cons_cons] at hcrc
  have hbody := List.dropLast_append_getLast? _ hcrc
  have hlength : BitVec.ofNat 8 (c :: rest).dropLast.length = b := by
    rw [← BitVec.toNat_inj, BitVec.toNat_ofNat]
    simp only [List.length_cons, List.length_dropLast] at hfield ⊢
    omega
  rw [hslice, frame_eq_cons, hlength, hbody]

/-- R131: exactly the consistent packets of 1 to 255 payload bytes. -/
theorem decodePacket_eq_ok_iff (p q : List Byte) :
    decodePacket p = (.ok, q) ↔ 1 ≤ q.length ∧ q.length ≤ 255 ∧ p = frame q := by
  constructor
  · intro h
    have hok : (decodePacket p).1 = .ok := by rw [h]
    obtain rfl : payloadSlice p = q := by rw [← decodePacket_ok_result hok, h]
    obtain ⟨hlen, -, ⟨n, -, hfield⟩, -⟩ := valid_of_decodePacket_ok hok
    rw [payloadSlice_length]
    exact ⟨by omega, hfield ▸ Nat.le_of_lt_succ n.isLt, eq_frame_payloadSlice hok⟩
  · rintro ⟨hpos, hmax, rfl⟩
    exact decodePacket_frame hpos hmax

/-- DECODE answers OK with `q` only when `decodePacket` gives it. -/
theorem decodePacket_eq_ok_of_exec {s t : State} {p q : List Byte} (hexec : exec (.decode p) s = .next t)
    (hresp : t.responses = s.responses ++ [{ status := .ok, state := none, result := q }]) :
    decodePacket p = (.ok, q) := by
  simpa [Prod.ext_iff, eq_comm] using response_of_exec_decode hexec hresp

/-- Settles O19: within the bound DECODE answers what `decodePacket` gives. -/
theorem decodeAcceptsExactlyFrames : Obligations.DecodeAcceptsExactlyFrames := by
  intro s p q hfits
  exact Iff.trans ⟨fun hexec => decodePacket_eq_ok_of_exec hexec rfl, fun h => exec_decode_accepted hfits h⟩
    (decodePacket_eq_ok_iff p q)

/-- Settles O20: a length byte is at most 255, and 256 bytes or more lie between the header fields and the
checksum. -/
theorem overlongPacketIsLengthFieldError : Obligations.OverlongPacketIsLengthFieldError := by
  intro s rest hfits hlong
  obtain ⟨n, rest, rfl⟩ : ∃ n tail, rest = n :: tail := List.exists_cons_of_length_pos (by omega)
  have hfield : n.toNat ≠ (0xD5 :: n :: rest).length - 3 := by
    have hn := n.isLt
    simp only [List.length_cons] at hlong ⊢
    omega
  refine exec_decode_accepted hfits (decodePacket_of_lengthField_ne ?_ rfl rfl hfield)
  simp only [List.length_cons] at hlong ⊢
  omega

/-- ENCODE answers OK only with the frame, and only up to `MAX_PAYLOAD`. -/
theorem encodePayload_eq_ok {cfg : Config} {p pkt : List Byte} (h : encodePayload cfg p = (.ok, pkt)) :
    p.length ≤ cfg.maxPayload.val ∧ pkt = frame p := by
  obtain ⟨-, he⟩ | ⟨hle, he⟩ := encodePayload_cases cfg p <;> cases he.symm.trans h
  exact ⟨hle, rfl⟩

theorem length_le_255_of_le_maxPayload {cfg : Config} {q : List Byte}
    (h : q.length ≤ cfg.maxPayload.val) : q.length ≤ 255 :=
  h.trans (Nat.le_of_lt_succ cfg.maxPayload.isLt)

/-- Settles O17: the packet is the payload's frame. -/
theorem encodedPacketIsValid : Obligations.EncodedPacketIsValid := by
  intro s t p pkt hexec hresp
  have hreply : encodePayload s.config p = (.ok, pkt) := by
    simpa [Prod.ext_iff, eq_comm] using response_of_exec_encode hexec hresp
  obtain ⟨hle, rfl⟩ := encodePayload_eq_ok hreply
  obtain ⟨hhead, hfield⟩ := frame_valid (length_le_255_of_le_maxPayload hle)
  exact ⟨hle, frame_length p, hhead, hfield, by simp [frame], frame_getLast? p⟩

/-- Settles O21: ENCODE answers the frame, which DECODE takes or finds too short. -/
theorem encodeDecodeRoundTrip : Obligations.EncodeDecodeRoundTrip := by
  intro s p hbound hle
  have hfits (n : Nat) : bulkFits s.config.maxBulkInput n = true := by rw [hbound]; rfl
  refine ⟨_, frame p, exec_encode_of_le (hfits _) hle, rfl, fun hpos => ?payload, ?tooShort⟩
  case payload =>
    exact exec_decode_accepted (hfits _) (decodePacket_frame hpos (length_le_255_of_le_maxPayload hle))
  case tooShort =>
    rintro rfl
    exact exec_decode_accepted (hfits _) decodePacket_frame_nil

/-! One byte changed. -/

/-- A frame with one byte put is a frame of the same length only if nothing changed: the header and the length byte
are fixed, a changed payload byte changes the checksum, and the checksum byte follows from the payload. -/
theorem getElem?_of_set_frame_eq_frame {q q' : List Byte} {k : Nat} {b : Byte} (hk : k < q.length + 3)
    (h : (frame q).set k b = frame q') : (frame q)[k]? = some b := by
  have hlen : q.length = q'.length := by simpa using congrArg List.length h
  rw [frame_eq_cons, frame_eq_cons, ← hlen] at h
  rw [frame_eq_cons]
  match k, hk, h with
  | 0, _, h => exact congrArg List.head? h.symm
  | 1, _, h => exact congrArg (·[1]?) h.symm
  | k + 2, hk, h =>
    simp only [List.set_cons_succ, List.cons.injEq, true_and] at h
    simp only [List.getElem?_cons_succ]
    obtain hlt | rfl : k < q.length ∨ k = q.length := by omega
    · rw [List.set_append_left _ _ hlt] at h
      obtain ⟨rfl, hcrc⟩ := List.append_inj' h rfl
      rw [List.getElem?_append_left hlt]
      by_contra hne
      exact checksum_set_ne hlt hne (List.singleton_inj.mp hcrc).symm
    · rw [List.set_append_right _ _ le_rfl] at h
      obtain ⟨rfl, hcrc⟩ := List.append_inj' h (by simp)
      simpa [eq_comm] using hcrc

/-- Settles O22: DECODE accepts frames only, and none differs from another of the same length in one byte. -/
theorem singleByteCorruptionIsRejected : Obligations.SingleByteCorruptionIsRejected := by
  intro s t q k b r _ _ hk hchanged hexec hresp hok
  obtain rfl := response_of_exec_decode hexec hresp
  exact hchanged (getElem?_of_set_frame_eq_frame hk (eq_frame_payloadSlice hok))

end Sys2Proof.Machine
end

section
/-!
PROOFS. SD_RECV's frame and its faults (spec/42_stream_decoder.md R142, R155; spec/93_implementation_defined.md
U4): what one transition keeps, a run of bytes that are no header, and which steps write a register.
-/

namespace Sys2Proof.Machine

/-- R142 "each only in the arms shown", for the registers. -/
theorem recvByte_frame {cfg : Config} {b : Byte} {d d' : StreamDecoder} {st : Status}
    (h : recvByte cfg b d = .done st d') :
    (d.state ≠ .waitForLength → d'.explen = d.explen) ∧
    (d.state ≠ .waitForData → d'.count = d.count ∧ d'.buf = d.buf) ∧
    d'.buf.length = d.buf.length ∧ ∀ k : Nat, k ≠ d.count → d'.buf[k]? = d.buf[k]? := by
  obtain ⟨st, -, he⟩ | ⟨-, he⟩ | ⟨hs, -, he⟩ | ⟨n, hs, -, he⟩ | ⟨-, -, he⟩ | ⟨f, he⟩ :=
    recvByte_cases cfg b d <;> cases he.symm.trans h
  case inl | inr.inl | inr.inr.inr.inr.inl =>
    exact ⟨fun _ => rfl, fun _ => ⟨rfl, rfl⟩, rfl, fun _ _ => rfl⟩
  case inr.inr.inl => exact ⟨fun hne => absurd hs hne, fun _ => ⟨rfl, rfl⟩, rfl, fun _ _ => rfl⟩
  case inr.inr.inr.inl =>
    exact ⟨fun _ => rfl, fun hne => absurd hs hne, bufWrite_length d d.count b,
      fun k hk => List.getElem?_set_ne hk.symm⟩

/-- Settles O35: a response carries the transition's registers, and a model fault changes none. -/
theorem sdRecvFrame : Obligations.SdRecvFrame := by
  intro s t b hexec
  obtain rfl := Host.Outcome.next.inj hexec
  obtain ⟨st, d, hend, h⟩ | ⟨f, -, h⟩ := finishRecv_cases s (recvByte s.config b s.sd) <;> rw [h]
  · exact ⟨rfl, rfl, rfl, rfl, recvByte_frame hend⟩
  · exact ⟨rfl, rfl, rfl, rfl, fun _ => rfl, fun _ => ⟨rfl, rfl⟩, rfl, fun _ _ => rfl⟩

/-- U4: reading `sd.explen` while it is unwritten. -/
theorem recvByte_data_unwritten {cfg : Config} {b : Byte} {d : StreamDecoder} (hd : d.state = .waitForData)
    (hn : d.explen = none) : recvByte cfg b d = .modelFault .explenUnwritten := by
  simp [recvByte, recvData, hd, hn]

theorem recvByte_eq_explenUnwritten_iff (cfg : Config) (b : Byte) (d : StreamDecoder) :
    recvByte cfg b d = .modelFault .explenUnwritten ↔ d.state = .waitForData ∧ d.explen = none := by
  refine ⟨fun h => ?_, fun ⟨hd, hn⟩ => recvByte_data_unwritten hd hn⟩
  simpa using recvByte_modelFault cfg b d _ h

/-- U4 for the operations: only SD_RECV reads `sd.explen`. -/
theorem exec_eq_explenUnwritten_iff (i : Instr) (s : State) :
    exec i s = .next (s.recordFault .explenUnwritten) ↔
      s.sd.state = .waitForData ∧ s.sd.explen = none ∧ ∃ b, i = .sdRecv b := by
  cases i with
  | sdRecv b =>
    rw [exec_sdRecv_eq_recordFault_iff, recvByte_eq_explenUnwritten_iff]
    simp
  | sdResult =>
    rw [exec_sdResult_eq_recordFault_iff]
    simp
  | checksum _ | encode _ | decode _ | sdNew => simpa using exec_ne_recordFault (by simp) (by simp) s _

/-- Settles O33: under the invariants `sd.explen` is written in `WAIT_FOR_DATA`. -/
theorem unwrittenExplenIsModelFault : Obligations.UnwrittenExplenIsModelFault := by
  refine ⟨exec_eq_explenUnwritten_iff, fun i s hinv hexec => ?_⟩
  obtain ⟨hdata, hnone, -⟩ := (exec_eq_explenUnwritten_iff i s).mp hexec
  exact explen_ne_none_of_inv hdata hinv hnone

/-- Settles O51: each byte is answered in place, so the next one finds the decoder waiting for a header too. -/
theorem headerHunting : Obligations.HeaderHunting := by
  intro bs
  induction bs with
  | nil => exact fun s _ _ => by simp [runFeed]
  | cons b bs ih =>
    intro s hs hbs
    obtain ⟨hb, hrest⟩ := List.forall_mem_cons.mp hbs
    have hfirst : exec (.sdRecv b) s = .next (s.respond .headerError (some .waitForHeader) []) :=
      exec_sdRecv_of_done_same hs (recvByte_header_of_ne hs hb)
    have hlater := ih (s.respond .headerError (some .waitForHeader) []) hs hrest
    rw [runFeed_cons_of_no_fault hfirst rfl, hlater]
    simp [State.respond]

/-! Operations and steps, by what they write. -/

/-- The four operations that write no register, and the two that do. -/
theorem instr_readOnly_or_writes (i : Instr) :
    ((∃ ops, i = .checksum ops ∨ i = .encode ops ∨ i = .decode ops) ∨ i = .sdResult) ∨
      i = .sdNew ∨ ∃ b, i = .sdRecv b := by
  cases i <;> simp

/-- Everything a step can do: idle, refuse a request that does not decode, or run the operation it encodes. -/
theorem step_next_cases {s t : State} (hstep : step s = .next t) :
    (s.requests = [] ∧ t = s) ∨
    (∃ r rest e, s.requests = r :: rest ∧ decodeRequest r = .error e ∧ t = (s.setRequests rest).refuse) ∨
    ∃ i rest, s.requests = encodeRequest i :: rest ∧ exec i (s.setRequests rest) = .next t := by
  cases hq : s.requests with
  | nil => exact .inl ⟨rfl, Host.Outcome.next.inj (hstep.symm.trans (idleStepKeepsState s hq))⟩
  | cons r rest =>
    right
    cases hr : decodeRequest r with
    | error e =>
      have hrefused := hstep.symm.trans (step_of_decodeRequest_error hq hr)
      exact .inl ⟨r, rest, e, rfl, hr, Host.Outcome.next.inj hrefused⟩
    | ok i =>
      obtain rfl := eq_encodeRequest_of_decodeRequest hr
      exact .inr ⟨i, rest, rfl, (step_of_encodeRequest hq).symm.trans hstep⟩

/-- Settles O44: an idle step, a refusal and the four other operations keep the registers. -/
theorem onlySdNewAndSdRecvWriteRegisters : Obligations.OnlySdNewAndSdRecvWriteRegisters := by
  intro s t hstep hchanged
  obtain ⟨-, rfl⟩ | ⟨r, rest, e, -, -, rfl⟩ | ⟨i, rest, hq, hexec⟩ := step_next_cases hstep
  · exact absurd rfl hchanged
  · exact absurd rfl hchanged
  · refine ⟨_, rest, hq, ?_⟩
    obtain hreadOnly | rfl | ⟨b, rfl⟩ := instr_readOnly_or_writes i
    · obtain ⟨-, hsd, -⟩ := readOnlyOperationsFrame i _ t hreadOnly hexec
      exact absurd hsd hchanged
    · exact .inl ⟨rfl, rfl⟩
    · exact .inr ⟨rfl, rfl⟩

end Sys2Proof.Machine
end

section
/-!
PROOFS. The decoder's invariants (spec/10_state.md R22, R23, R25): what they say in each state, that they hold at
reset and after SD_NEW, that one SD_RECV keeps them, and so that every step does.
-/

namespace Sys2Proof.Machine

/-! R25, state by state. -/

theorem StreamDecoder.inv_iff (cfg : Config) (d : StreamDecoder) :
    d.inv cfg = true ↔ d.buf.length = cfg.maxPayload.val ∧ explenBounded cfg d.explen = true ∧
      d.tagInv cfg = true := by
  simp [StreamDecoder.inv, and_assoc]

section
variable {cfg : Config} {d : StreamDecoder}

theorem tagInv_header_iff (hd : d.state = .waitForHeader) : d.tagInv cfg = true ↔ d.count = 0 := by
  simp [StreamDecoder.tagInv, hd]

theorem tagInv_length_iff (hd : d.state = .waitForLength) : d.tagInv cfg = true ↔ d.count = 0 := by
  simp [StreamDecoder.tagInv, hd]

theorem tagInv_data_iff (hd : d.state = .waitForData) :
    d.tagInv cfg = true ↔
      ∃ n, d.explen = some n ∧ 1 ≤ n.toNat ∧ n.toNat ≤ cfg.maxPayload.val ∧ d.count < n.toNat := by
  cases hn : d.explen <;> simp [StreamDecoder.tagInv, hd, hn, and_assoc]

theorem tagInv_crc_iff (hd : d.state = .waitForCrc) :
    d.tagInv cfg = true ↔ ∃ n, d.explen = some n ∧ d.count = n.toNat ∧ n.toNat ≤ cfg.maxPayload.val := by
  cases hn : d.explen <;> simp [StreamDecoder.tagInv, hd, hn]

theorem tagInv_ready_iff (hd : d.state = .payloadReady) :
    d.tagInv cfg = true ↔ ∃ n, d.explen = some n ∧ d.count = n.toNat ∧ n.toNat ≤ cfg.maxPayload.val := by
  cases hn : d.explen <;> simp [StreamDecoder.tagInv, hd, hn]

end

/-- R25 with nothing received. -/
theorem inv_of_waiting_for_header {cfg : Config} {d : StreamDecoder} (hstate : d.state = .waitForHeader)
    (hexplen : d.explen = none) (hbuf : d.buf.length = cfg.maxPayload.val) (hcount : d.count = 0) :
    d.inv cfg = true :=
  (d.inv_iff cfg).mpr ⟨hbuf, by rw [hexplen]; rfl, (tagInv_header_iff hstate).mpr hcount⟩

theorem freshDecoder_inv (cfg : Config) (draw : Nat) : (freshDecoder cfg draw).inv cfg = true :=
  inv_of_waiting_for_header rfl rfl (freeBuf_length ..) rfl

/-- Settles O45: at power-on nothing is received. -/
theorem resetMeetsDecoderInvariant : Obligations.ResetMeetsDecoderInvariant := fun _ =>
  inv_of_waiting_for_header rfl rfl List.length_replicate rfl

/-- Settles O25: the invariants at reset, and the reset values as they stand. -/
theorem resetMeetsLaunchPremises : Obligations.ResetMeetsLaunchPremises := by
  refine ⟨?launch, rfl, rfl, rfl, rfl, rfl, rfl⟩
  have hinv : State.reset.inv = true := resetMeetsDecoderInvariant Config.default
  rw [State.launch, hinv]
  rfl

/-! SD_RECV keeps the invariants. -/

/-- R145, R146: a length byte up to `MAX_PAYLOAD` with nothing received. -/
theorem inv_of_lengthByte {cfg : Config} {b : Byte} {d : StreamDecoder} (hd : d.state = .waitForLength)
    (hb : b.toNat ≤ cfg.maxPayload.val) (h : d.inv cfg = true) :
    StreamDecoder.inv cfg { d with
      explen := some b, state := if b = 0x00 then .waitForCrc else .waitForData } = true := by
  obtain ⟨hbuf, -, htag⟩ := (d.inv_iff cfg).mp h
  have hcount : d.count = 0 := (tagInv_length_iff hd).mp htag
  refine (StreamDecoder.inv_iff ..).mpr ⟨hbuf, decide_eq_true hb, ?_⟩
  by_cases hzero : b = 0x00
  · rw [if_pos hzero]
    exact (tagInv_crc_iff rfl).mpr ⟨b, rfl, by simp [hcount, hzero], hb⟩
  · have hpos : 1 ≤ b.toNat := Nat.pos_of_ne_zero fun h0 => hzero (BitVec.eq_of_toNat_eq h0)
    rw [if_neg hzero]
    exact (tagInv_data_iff rfl).mpr ⟨b, rfl, hpos, hb, hcount.trans_lt hpos⟩

/-- R147: the count goes up by one, to `sd.explen` at most. -/
theorem inv_of_dataByte {cfg : Config} {b n : Byte} {d : StreamDecoder} (hd : d.state = .waitForData)
    (hn : d.explen = some n) (h : d.inv cfg = true) :
    StreamDecoder.inv cfg { appendByte b d with
      state := if d.count + 1 = n.toNat then .waitForCrc else .waitForData } = true := by
  obtain ⟨hbuf, hbounded, htag⟩ := (d.inv_iff cfg).mp h
  obtain ⟨m, hm, hpos, hle, hlt⟩ := (tagInv_data_iff hd).mp htag
  obtain rfl : n = m := Option.some.inj (hn.symm.trans hm)
  refine (StreamDecoder.inv_iff ..).mpr ⟨(bufWrite_length d d.count b).trans hbuf, hbounded, ?_⟩
  by_cases hlast : d.count + 1 = n.toNat
  · rw [if_pos hlast]
    exact (tagInv_crc_iff rfl).mpr ⟨n, hn, hlast, hle⟩
  · rw [if_neg hlast]
    exact (tagInv_data_iff rfl).mpr ⟨n, hn, hpos, hle, Nat.lt_of_le_of_ne hlt hlast⟩

theorem recvByte_keeps_inv {cfg : Config} {b : Byte} {d d' : StreamDecoder} {st : Status}
    (h : d.inv cfg = true) (hrecv : recvByte cfg b d = .done st d') : d'.inv cfg = true := by
  obtain ⟨hbuf, hbounded, htag⟩ := (d.inv_iff cfg).mp h
  obtain ⟨st, -, he⟩ | ⟨hs, he⟩ | ⟨hs, hb, he⟩ | ⟨n, hs, hn, he⟩ | ⟨hs, -, he⟩ | ⟨f, he⟩ :=
    recvByte_cases cfg b d <;> cases he.symm.trans hrecv
  case inl => exact h
  case inr.inl =>
    have hcount := (tagInv_header_iff hs).mp htag
    exact (StreamDecoder.inv_iff ..).mpr ⟨hbuf, hbounded, (tagInv_length_iff rfl).mpr hcount⟩
  case inr.inr.inl => exact inv_of_lengthByte hs hb h
  case inr.inr.inr.inl => exact inv_of_dataByte hs hn h
  case inr.inr.inr.inr.inl =>
    have hfull := (tagInv_crc_iff hs).mp htag
    exact (StreamDecoder.inv_iff ..).mpr ⟨hbuf, hbounded, (tagInv_ready_iff rfl).mpr hfull⟩

/-! Every operation and every step keeps the invariants. -/

theorem inv_of_sd_eq {s t : State} (hcfg : t.config = s.config) (hsd : t.sd = s.sd) (h : s.inv = true) :
    t.inv = true := by
  rw [State.inv, hcfg, hsd]
  exact h

theorem exec_keeps_inv {i : Instr} {s t : State} (h : s.inv = true) (hexec : exec i s = .next t) :
    t.inv = true := by
  obtain hreadOnly | rfl | ⟨b, rfl⟩ := instr_readOnly_or_writes i
  · obtain ⟨hcfg, hsd, -⟩ := readOnlyOperationsFrame i s t hreadOnly hexec
    exact inv_of_sd_eq hcfg hsd h
  · obtain rfl := Host.Outcome.next.inj hexec
    exact freshDecoder_inv s.config s.draws
  · obtain rfl := Host.Outcome.next.inj hexec
    obtain ⟨st, d, hend, hfinish⟩ | ⟨f, -, hfinish⟩ := finishRecv_cases s (recvByte s.config b s.sd) <;>
      rw [hfinish]
    · exact recvByte_keeps_inv (cfg := s.config) h hend
    · exact h

/-- Settles O46: an idle step and a refusal keep registers and parameters, and every operation keeps the
invariants. -/
theorem stepKeepsDecoderInvariant : Obligations.StepKeepsDecoderInvariant := by
  intro s t hinv hstep
  obtain ⟨-, rfl⟩ | ⟨r, rest, e, -, -, rfl⟩ | ⟨i, rest, -, hexec⟩ := step_next_cases hstep
  · exact hinv
  · exact hinv
  · exact exec_keeps_inv (s := s.setRequests rest) hinv hexec

/-- Settles O47: a step idles or serves a request, and each is a next state. -/
theorem stepIsTotal : Obligations.StepIsTotal := by
  intro s
  obtain ⟨-, hidle⟩ | ⟨r, rest, t, -, hserve, -⟩ := step_cases s
  · exact ⟨s, hidle, id⟩
  · exact ⟨t, hserve, fun hinv => stepKeepsDecoderInvariant s t hinv hserve⟩

/-- Settles O48: of the three ways a request can end, the premises exclude the three model faults (O41) and the
refusal (O7); an answer keeps the records. -/
theorem dutifulHostStaysGood : Obligations.DutifulHostStaysGood := by
  intro s i hinv hgood haccept hfits hduty
  obtain ⟨t, hexec, hserved⟩ := exec_served i s
  cases hserved with
  | answered d n st tag result => exact ⟨_, hexec, hgood, _, rfl⟩
  | faulted f =>
    obtain ⟨-, hready, b, rfl⟩ | ⟨-, hnot, rfl⟩ | ⟨-, -, -, hfault⟩ :=
      (modelFaultsAreExactlyTheThree.1 i s f (.inl hinv)).mp hexec
    · simp [hostMayIssue, hready] at hduty
    · simp [hostMayIssue, hnot] at hduty
    · cases haccept.symm.trans hfault
  | refused => cases hfits.symm.trans ((exec_eq_refuse_iff i s).mp hexec)

/-- Settles O50: the length arm keeps the empty payload, whose checksum is `CRC_INIT`; the data arm appends its
byte, the last table step of the new payload. -/
theorem runningCrcMatchesBuffer : Obligations.RunningCrcMatchesBuffer := by
  intro s t b hinv hexec
  refine ⟨fun hs => ?length, fun hs => ?data⟩
  case length =>
    obtain ⟨-, -, -, -, -, hkept, -⟩ := sdRecvFrame s t b hexec
    have hcount : t.sd.count = 0 := (hkept (by simp [hs])).1.trans (count_eq_zero_of_inv hs hinv)
    rw [payload_of_count_zero t.sd hcount]
    rfl
  case data =>
    obtain ⟨n, hn⟩ := Option.ne_none_iff_exists'.mp (explen_ne_none_of_inv hs hinv)
    obtain rfl := Host.Outcome.next.inj ((exec_sdRecv_of_done (recvByte_data hs hn)).symm.trans hexec)
    have hpayload := appendByte_payload s.sd b (count_lt_buf_length_of_inv hs hinv)
    calc checksum (appendByte b s.sd).payload
      _ = checksum (s.sd.payload ++ [b]) := by rw [hpayload]
      _ = crcStep (checksum s.sd.payload) b := checksum_concat ..

end Sys2Proof.Machine
end

section
/-!
PROOFS. The unspecified buffer entries are never read (spec/10_state.md R33, spec/93_implementation_defined.md
U5): `State.sameView` and the registers' specified contents are kept by each shared operation, by the transition
of SD_RECV, and so by every step.
-/

namespace Sys2Proof.Machine

theorem specified_eq_iff (d d' : StreamDecoder) :
    d.specified = d'.specified ↔
      d.state = d'.state ∧ d.explen = d'.explen ∧ d.count = d'.count ∧ d.payload = d'.payload := by
  simp [StreamDecoder.specified]

/-! The shared operations on two states of the same view. -/

section
variable {s s' : State} (h : s.sameView s')
include h

theorem sameView_respond (st : Status) (tag : Option StateTag) (result : List Byte) :
    (s.respond st tag result).sameView (s'.respond st tag result) := by
  obtain ⟨hcfg, hsd, hfaults, hmark, hqueue, hresponses⟩ := h
  exact ⟨hcfg, hsd, hfaults, hmark, hqueue, congrArg (· ++ _) hresponses⟩

theorem sameView_recordFault (f : ModelFault) : (s.recordFault f).sameView (s'.recordFault f) := by
  obtain ⟨hcfg, hsd, hfaults, hmark, hqueue, hresponses⟩ := h
  exact ⟨hcfg, hsd, congrArg (· ++ [f]) hfaults, hmark, hqueue, hresponses⟩

theorem sameView_refuse : s.refuse.sameView s'.refuse := by
  obtain ⟨hcfg, hsd, hfaults, -, hqueue, hresponses⟩ := h
  exact ⟨hcfg, hsd, hfaults, rfl, hqueue, hresponses⟩

theorem sameView_setRequests (rs : List Request) : (s.setRequests rs).sameView (s'.setRequests rs) := by
  obtain ⟨hcfg, hsd, hfaults, hmark, -, hresponses⟩ := h
  exact ⟨hcfg, hsd, hfaults, hmark, rfl, hresponses⟩

theorem sameView_setSd {d d' : StreamDecoder} (hd : d.specified = d'.specified) :
    (s.setSd d).sameView (s'.setSd d') := by
  obtain ⟨hcfg, -, hfaults, hmark, hqueue, hresponses⟩ := h
  exact ⟨hcfg, hd, hfaults, hmark, hqueue, hresponses⟩

theorem sameView_nextDraw : s.nextDraw.sameView s'.nextDraw := h

theorem sameView_bulkReply (ops : List Byte) (reply : Status × List Byte) :
    (bulkReply s ops reply).sameView (bulkReply s' ops reply) := by
  have hcfg : s.config = s'.config := by
    obtain ⟨hsame, -⟩ := h
    exact hsame
  cases hfits : bulkFits s.config.maxBulkInput ops.length with
  | true =>
    rw [bulkReply_accepted s ops reply hfits, bulkReply_accepted s' ops reply (hcfg ▸ hfits)]
    exact sameView_respond h ..
  | false =>
    rw [bulkReply_refused s ops reply hfits, bulkReply_refused s' ops reply (hcfg ▸ hfits)]
    exact sameView_refuse h

end

/-! The transition of SD_RECV. -/

/-- Two ends of an SD_RECV that differ in the unspecified buffer entries at most. -/
inductive RecvEnd.SameView : RecvEnd → RecvEnd → Prop where
  | done (st : Status) {d d' : StreamDecoder} (h : d.specified = d'.specified) :
      SameView (.done st d) (.done st d')
  | modelFault (f : ModelFault) : SameView (.modelFault f) (.modelFault f)

theorem sameView_finishRecv {s s' : State} (h : s.sameView s') {e e' : RecvEnd} (he : e.SameView e') :
    (finishRecv s e).sameView (finishRecv s' e') := by
  cases he with
  | modelFault f => exact sameView_recordFault h f
  | @done st d d' hd =>
    have htag : d.state = d'.state := ((specified_eq_iff d d').mp hd).1
    rw [finishRecv_done, finishRecv_done, htag]
    exact sameView_respond (sameView_setSd h hd) ..

section
variable {cfg : Config} {d d' : StreamDecoder} (hview : d.specified = d'.specified)
include hview

/-- A move that writes the same tag and `sd.explen` in both keeps the view. -/
theorem specified_eq_of_write (tag : StateTag) (e : Option Byte) :
    StreamDecoder.specified { d with state := tag, explen := e } =
      StreamDecoder.specified { d' with state := tag, explen := e } := by
  obtain ⟨-, -, hcount, hpayload⟩ := (specified_eq_iff d d').mp hview
  exact (specified_eq_iff ..).mpr ⟨rfl, rfl, hcount, hpayload⟩

theorem specified_eq_of_setState (tag : StateTag) :
    StreamDecoder.specified { d with state := tag } = StreamDecoder.specified { d' with state := tag } := by
  obtain ⟨-, hexplen, hcount, hpayload⟩ := (specified_eq_iff d d').mp hview
  exact (specified_eq_iff ..).mpr ⟨rfl, hexplen, hcount, hpayload⟩

/-- R147: with room in both buffers the append extends the common payload. -/
theorem specified_eq_of_append (tag : StateTag) (b : Byte) (hroom : d.count < d.buf.length)
    (hroom' : d'.count < d'.buf.length) :
    StreamDecoder.specified { appendByte b d with state := tag } =
      StreamDecoder.specified { appendByte b d' with state := tag } := by
  obtain ⟨-, hexplen, hcount, hpayload⟩ := (specified_eq_iff d d').mp hview
  refine (specified_eq_iff ..).mpr ⟨rfl, hexplen, congrArg (· + 1) hcount, ?_⟩
  calc (appendByte b d).payload
    _ = d.payload ++ [b] := appendByte_payload d b hroom
    _ = d'.payload ++ [b] := by rw [hpayload]
    _ = (appendByte b d').payload := (appendByte_payload d' b hroom').symm

end

/-- R142: one byte acts on the specified contents alone. -/
theorem recvByte_sameView {s s' : State} (h : s.inv = true) (h' : s'.inv = true) (hview : s.sameView s')
    (b : Byte) : (recvByte s.config b s.sd).SameView (recvByte s'.config b s'.sd) := by
  obtain ⟨hcfg, hsd, -⟩ := hview
  obtain ⟨hstate, hexplen, hcount, hpayload⟩ := (specified_eq_iff _ _).mp hsd
  rw [← hcfg]
  cases hs : s.sd.state <;> have hs' := hstate.symm.trans hs
  case waitForHeader =>
    by_cases hb : b = header
    · rw [recvByte_header_of_eq hs hb, recvByte_header_of_eq hs' hb]
      exact .done .ok (specified_eq_of_setState hsd .waitForLength)
    · rw [recvByte_header_of_ne hs hb, recvByte_header_of_ne hs' hb]
      exact .done .headerError hsd
  case waitForLength =>
    rcases Nat.lt_or_ge s.config.maxPayload.val b.toNat with hlong | hle
    · rw [recvByte_length_of_lt hs hlong, recvByte_length_of_lt hs' hlong]
      exact .done .lengthFieldError hsd
    rcases Nat.eq_zero_or_pos b.toNat with hzero | hpos
    · obtain rfl : b = 0x00 := BitVec.eq_of_toNat_eq hzero
      cases hzls : s.config.zeroLengthStream
      · rw [recvByte_length_zero_accept hs hzls, recvByte_length_zero_accept hs' hzls]
        exact .done .ok (specified_eq_of_write hsd .waitForCrc (some 0x00))
      · rw [recvByte_length_zero_fault hs hzls, recvByte_length_zero_fault hs' hzls]
        exact .modelFault .zeroLengthStream
    · rw [recvByte_length_of_pos hs hpos hle, recvByte_length_of_pos hs' hpos hle]
      exact .done .ok (specified_eq_of_write hsd .waitForData (some b))
  case waitForData =>
    obtain ⟨n, hn⟩ := Option.ne_none_iff_exists'.mp (explen_ne_none_of_inv hs h)
    rw [recvByte_data hs hn, recvByte_data hs' (hexplen.symm.trans hn), ← hcount]
    exact .done .ok (specified_eq_of_append hsd _ b (count_lt_buf_length_of_inv hs h)
      (count_lt_buf_length_of_inv hs' h'))
  case waitForCrc =>
    by_cases hb : b = checksum s.sd.payload
    · rw [recvByte_crc_of_eq hs hb, recvByte_crc_of_eq hs' (hpayload ▸ hb)]
      exact .done .ok (specified_eq_of_setState hsd .payloadReady)
    · rw [recvByte_crc_of_ne hs hb, recvByte_crc_of_ne hs' (hpayload ▸ hb)]
      exact .done .crcError hsd
  case payloadReady =>
    rw [recvByte_ready hs, recvByte_ready hs']
    exact .modelFault .undefinedFeed

/-! Every operation and every step. -/

theorem exec_sameView {s s' : State} (h : s.inv = true) (h' : s'.inv = true) (hview : s.sameView s')
    (i : Instr) : ∃ t t', exec i s = .next t ∧ exec i s' = .next t' ∧ t.sameView t' := by
  obtain ⟨hcfg, hsd, -⟩ := id hview
  cases i with
  | checksum data => exact ⟨_, _, rfl, rfl, sameView_bulkReply hview ..⟩
  | encode p =>
    refine ⟨_, _, rfl, exec_encode_eq_bulkReply p s', ?_⟩
    rw [← hcfg]
    exact sameView_bulkReply hview ..
  | decode p => exact ⟨_, _, rfl, rfl, sameView_bulkReply hview ..⟩
  | sdNew =>
    have hfresh := (freshDecoder_specified s.config s.draws).trans
      (freshDecoder_specified s'.config s'.draws).symm
    exact ⟨_, _, rfl, rfl, sameView_respond (sameView_nextDraw (sameView_setSd hview hfresh)) ..⟩
  | sdRecv b => exact ⟨_, _, rfl, rfl, sameView_finishRecv hview (recvByte_sameView h h' hview b)⟩
  | sdResult =>
    obtain ⟨hstate, -, -, hpayload⟩ := (specified_eq_iff _ _).mp hsd
    by_cases hready : s.sd.state = .payloadReady
    · refine ⟨_, _, exec_sdResult_of_ready hready, exec_sdResult_of_ready (hstate ▸ hready), ?_⟩
      rw [← hpayload]
      exact sameView_respond hview ..
    · exact ⟨_, _, exec_sdResult_of_not_ready hready, exec_sdResult_of_not_ready (hstate ▸ hready),
        sameView_recordFault hview _⟩

/-- Settles O49: the two states have the same queue, so they idle, refuse, or run the same operation. -/
theorem unspecifiedBufferIsUnobservable : Obligations.UnspecifiedBufferIsUnobservable := by
  intro s s' t h h' hview hstep
  have hqueue : s'.requests = s.requests := by
    obtain ⟨-, -, -, -, hsame, -⟩ := hview
    exact hsame.symm
  obtain ⟨hq, rfl⟩ | ⟨r, rest, e, hq, hr, rfl⟩ | ⟨i, rest, hq, hexec⟩ := step_next_cases hstep
  · exact ⟨s', idleStepKeepsState s' (hqueue.trans hq), hview⟩
  · exact ⟨_, step_of_decodeRequest_error (hqueue.trans hq) hr,
      sameView_refuse (sameView_setRequests hview rest)⟩
  · obtain ⟨u, u', hu, hu', huview⟩ := exec_sameView (s := s.setRequests rest)
      (s' := s'.setRequests rest) h h' (sameView_setRequests hview rest) i
    obtain rfl : u = t := Host.Outcome.next.inj (hu.symm.trans hexec)
    exact ⟨u', (step_of_encodeRequest (hqueue.trans hq)).trans hu', huview⟩

end Sys2Proof.Machine
end

section
/-!
PROOFS. A packet fed byte by byte (spec/42_stream_decoder.md R154): SD_RECVs that all answer OK, as a relation on the
registers; a decoder that waits for a header takes a whole frame so; and the machine's run of such requests.
-/

namespace Sys2Proof.Machine

/-! Bytes that all answer OK. -/

/-- The decoder takes the bytes one after another, each with status OK, and reports these tags. -/
inductive Accepts (cfg : Config) : StreamDecoder → List Byte → List StateTag → StreamDecoder → Prop where
  | nil (d : StreamDecoder) : Accepts cfg d [] [] d
  | cons {d d' d'' : StreamDecoder} {b : Byte} {bs : List Byte} {tags : List StateTag}
      (hfirst : recvByte cfg b d = .done .ok d') (hrest : Accepts cfg d' bs tags d'') :
      Accepts cfg d (b :: bs) (d'.state :: tags) d''

section
variable {cfg : Config} {d d' d'' : StreamDecoder} {bs bs' : List Byte} {tags tags' : List StateTag}

theorem Accepts.length_eq (h : Accepts cfg d bs tags d') : tags.length = bs.length := by
  induction h with
  | nil => rfl
  | cons _ _ ih => exact congrArg (· + 1) ih

theorem Accepts.append (h : Accepts cfg d bs tags d') (h' : Accepts cfg d' bs' tags' d'') :
    Accepts cfg d (bs ++ bs') (tags ++ tags') d'' := by
  induction h with
  | nil => exact h'
  | cons hfirst _ ih => exact .cons hfirst (ih h')

end

/-- R147: with room for them, the data bytes up to `sd.explen` are appended, and the last one leads to
`WAIT_FOR_CRC`. -/
theorem accepts_data {cfg : Config} {n : Byte} (b : Byte) (bs : List Byte) {d : StreamDecoder}
    (hd : d.state = .waitForData) (hn : d.explen = some n) (hfull : d.count + (bs.length + 1) = n.toNat)
    (hroom : n.toNat ≤ d.buf.length) :
    ∃ tags d', Accepts cfg d (b :: bs) tags d' ∧ d'.state = .waitForCrc ∧ d'.payload = d.payload ++ b :: bs ∧
      ∀ g ∈ tags, g ≠ .payloadReady := by
  induction bs generalizing b d with
  | nil =>
    have hfirst := recvByte_data (cfg := cfg) (b := b) hd hn
    rw [List.length_nil, Nat.zero_add] at hfull
    rw [if_pos hfull] at hfirst
    exact ⟨_, _, .cons hfirst (.nil _), rfl, appendByte_payload d b (by omega), by simp⟩
  | cons c bs ih =>
    have hfirst := recvByte_data (cfg := cfg) (b := b) hd hn
    rw [List.length_cons] at hfull
    rw [if_neg (by omega)] at hfirst
    have hlen := bufWrite_length d d.count b
    obtain ⟨tags, d', hrest, hstate, hpayload', htags⟩ :=
      ih c (d := { appendByte b d with state := .waitForData }) rfl hn (by rw [appendByte_count]; omega)
        (hroom.trans_eq hlen.symm)
    refine ⟨_, d', .cons hfirst hrest, hstate, ?_, by simpa using htags⟩
    calc d'.payload
      _ = (appendByte b d).payload ++ c :: bs := hpayload'
      _ = d.payload ++ b :: c :: bs := by simp [appendByte_payload d b (by omega)]

/-- R143 to R147: header, length byte and payload of a frame, up to the checksum byte. -/
theorem accepts_upTo_crc {cfg : Config} {d : StreamDecoder} {q : List Byte} (hd : d.state = .waitForHeader)
    (hcount : d.count = 0) (hbuf : d.buf.length = cfg.maxPayload.val) (hpos : 1 ≤ q.length)
    (hmax : q.length ≤ cfg.maxPayload.val) :
    ∃ tags d', Accepts cfg d (header :: BitVec.ofNat 8 q.length :: q) tags d' ∧ d'.state = .waitForCrc ∧
      d'.payload = q ∧ ∀ g ∈ tags, g ≠ .payloadReady := by
  obtain ⟨b, bs, rfl⟩ := List.exists_cons_of_length_pos hpos
  have hlen := toNat_ofNat_length (length_le_255_of_le_maxPayload hmax)
  have hheader := recvByte_header_of_eq (cfg := cfg) hd rfl
  have hlength := recvByte_length_of_pos (cfg := cfg) (b := BitVec.ofNat 8 (b :: bs).length)
    (d := { d with state := .waitForLength }) rfl (hpos.trans_eq hlen.symm) (hlen.trans_le hmax)
  obtain ⟨tags, d', hdata, hstate, hpayload, htags⟩ := accepts_data (cfg := cfg) b bs
    (d := { d with state := .waitForData, explen := some (BitVec.ofNat 8 (b :: bs).length) }) rfl rfl
    (by rw [hlen, hcount]; simp) (by rw [hlen, hbuf]; exact hmax)
  refine ⟨_, d', .cons hheader (.cons hlength hdata), hstate, ?_, by simpa using htags⟩
  rw [hpayload, payload_mk, payload_of_count_zero d hcount, List.nil_append]

/-- R149: the checksum byte makes it the whole frame. -/
theorem accepts_frame {cfg : Config} {d : StreamDecoder} {q : List Byte} (hd : d.state = .waitForHeader)
    (hcount : d.count = 0) (hbuf : d.buf.length = cfg.maxPayload.val) (hpos : 1 ≤ q.length)
    (hmax : q.length ≤ cfg.maxPayload.val) :
    ∃ tags d', Accepts cfg d (frame q) (tags ++ [.payloadReady]) d' ∧ d'.state = .payloadReady ∧
      d'.payload = q ∧ ∀ g ∈ tags, g ≠ .payloadReady := by
  obtain ⟨tags, d', hbody, hstate, rfl, htags⟩ := accepts_upTo_crc hd hcount hbuf hpos hmax
  have hcrc := recvByte_crc_of_eq (cfg := cfg) hstate rfl
  exact ⟨tags, _, hbody.append (.cons hcrc (.nil _)), rfl, rfl, htags⟩

/-! The machine on such bytes. -/

/-- The machine after SD_NEW (R140). -/
def State.renewed (s : State) : State :=
  ((s.setSd (freshDecoder s.config s.draws)).nextDraw).respond .ok (some .waitForHeader) []

theorem exec_sdNew (s : State) : exec .sdNew s = .next s.renewed := rfl

/-- The machine after SD_RECVs that all answered OK, with the registers `d` and these tags. -/
def State.fed (s : State) (d : StreamDecoder) (tags : List StateTag) : State :=
  { s with
    sd := d
    responses := s.responses ++ tags.map fun g => { status := .ok, state := some g, result := [] } }

theorem State.fed_nil (s : State) : s.fed s.sd [] = s := by
  simp [State.fed]

theorem State.fed_fed (s : State) (d d' : StreamDecoder) (tags tags' : List StateTag) :
    (s.fed d tags).fed d' tags' = s.fed d' (tags ++ tags') := by
  simp [State.fed]

theorem exec_sdRecv_of_ok {s : State} {b : Byte} {d : StreamDecoder}
    (h : recvByte s.config b s.sd = .done .ok d) : exec (.sdRecv b) s = .next (s.fed d [d.state]) :=
  exec_sdRecv_of_done h

theorem run_succ_of_step {M : Host.Core} {s t : M.State} (k : Nat) (h : M.step s = .next t) :
    M.run (k + 1) s = M.run k t := by
  rw [Host.Core.run, h]

theorem run_succ_of_exec {s t : State} {i : Instr} {rest : List Request} (k : Nat)
    (hq : s.requests = encodeRequest i :: rest) (hexec : exec i (s.setRequests rest) = .next t) :
    core.run (k + 1) s = core.run k t :=
  run_succ_of_step (M := core) k ((step_of_encodeRequest hq).trans hexec)

/-- The SD_RECV requests of accepted bytes, run one step each. -/
theorem run_of_accepts {cfg : Config} {d d' : StreamDecoder} {bs : List Byte} {tags : List StateTag}
    (h : Accepts cfg d bs tags d') (k : Nat) {s : State} {rest : List Request} (hcfg : s.config = cfg)
    (hd : s.sd = d) (hq : s.requests = (bs.map Instr.sdRecv).map encodeRequest ++ rest) :
    core.run (k + bs.length) s = core.run k ((s.setRequests rest).fed d' tags) := by
  induction h generalizing s with
  | nil d =>
    have hsame : (s.setRequests rest).fed d [] = s := by
      cases s
      cases hd
      cases hq
      exact State.fed_nil _
    exact congrArg (core.run k) hsame.symm
  | @cons d d₁ d' b bs tags hfirst hrest ih =>
    subst hcfg hd
    calc core.run (k + bs.length + 1) s
      _ = core.run (k + bs.length) ((s.setRequests _).fed d₁ [d₁.state]) :=
        run_succ_of_exec _ hq (exec_sdRecv_of_ok hfirst)
      _ = core.run k ((((s.setRequests _).fed d₁ [d₁.state]).setRequests rest).fed d' tags) :=
        ih rfl rfl rfl
      _ = core.run k ((s.setRequests rest).fed d' (d₁.state :: tags)) :=
        congrArg (core.run k) (State.fed_fed (s.setRequests rest) d₁ d' [d₁.state] tags)

/-- SD_NEW and such bytes after it. -/
theorem run_sdNew_of_accepts {s : State} {d : StreamDecoder} {bs : List Byte} {tags : List StateTag}
    {rest : List Request} (h : Accepts s.config (freshDecoder s.config s.draws) bs tags d) (k : Nat)
    (hq : s.requests = encodeRequest .sdNew :: ((bs.map Instr.sdRecv).map encodeRequest ++ rest)) :
    core.run (k + bs.length + 1) s = core.run k ((s.setRequests rest).renewed.fed d tags) :=
  calc core.run (k + bs.length + 1) s
    _ = core.run (k + bs.length)
        (s.setRequests ((bs.map Instr.sdRecv).map encodeRequest ++ rest)).renewed :=
      run_succ_of_exec _ hq (exec_sdNew _)
    _ = core.run k ((s.setRequests rest).renewed.fed d tags) := run_of_accepts h k rfl rfl rfl

/-- Settles O53: the packet is a frame, which the fresh decoder takes byte by byte; SD_RESULT reads its payload. -/
theorem incrementalMatchesBulk : Obligations.IncrementalMatchesBulk := by
  intro s u p q hdecode hmax hq
  obtain ⟨hpos, -, rfl⟩ := (decodePacket_eq_ok_iff p q).mp (decodePacket_eq_ok_of_exec hdecode rfl)
  obtain ⟨tags, d, hfeed, hready, hpayload, htags⟩ := accepts_frame (cfg := s.config)
    (freshDecoder_state s.config s.draws) (freshDecoder_count ..) (freeBuf_length ..) hpos hmax
  have hlen : tags.length + 1 = (frame q).length := by simpa using hfeed.length_eq
  rw [List.map_append, List.map_append, List.append_assoc] at hq
  have hbytes := run_sdNew_of_accepts hfeed 1 hq
  have hresult := run_succ_of_exec 0
    (s := (s.setRequests [encodeRequest .sdResult]).renewed.fed d (tags ++ [.payloadReady])) rfl
    (exec_sdResult_of_ready hready)
  rw [Nat.add_comm 1] at hbytes
  refine ⟨_, tags, hbytes.trans hresult, hlen, htags, ?_, rfl, rfl, rfl⟩
  simp [State.renewed, State.fed, hpayload]

end Sys2Proof.Machine
end

section
/-!
PROOFS. SendCommand (spec/60_exceptions.md R230 to R235, R240, R241): everything one move of the host can do, the
attempts and the wire it accounts for, and the attempt that receives a well-formed response.
-/

namespace Sys2Proof.Machine

/-! Moves, one after another. -/

theorem moves_cons (hc : HostConfig) (e : LinkEvent) (es : List LinkEvent) (t : Transport) :
    t.moves hc (e :: es) = (t.move hc e).moves hc es := rfl

theorem moves_append (hc : HostConfig) (es es' : List LinkEvent) (t : Transport) :
    t.moves hc (es ++ es') = (t.moves hc es).moves hc es' := List.foldl_append

theorem move_of_ended {hc : HostConfig} {e : LinkEvent} {t : Transport} {x : SendEnd}
    (h : t.phase = .ended x) : t.move hc e = t := by
  cases e <;> simp [Transport.move, h]

/-- A SendCommand that has ended sees nothing of the link. -/
theorem moves_of_ended {hc : HostConfig} {t : Transport} {x : SendEnd} (h : t.phase = .ended x)
    (es : List LinkEvent) : t.moves hc es = t := by
  induction es with
  | nil => rfl
  | cons e es ih => rw [moves_cons, move_of_ended h, ih]

/-! Requests and their responses. -/

theorem issue_of_response {i : Instr} {s t : State} {r : Response} (hexec : exec i s = .next t)
    (hresp : t.responses = s.responses ++ [r]) : issue i s = (t, some r) := by
  simp [issue, hexec, hresp]

/-! The timeout. -/

theorem move_noByte {hc : HostConfig} {t : Transport} {start now : Nat} (h : t.phase = .polling start) :
    t.move hc (.noByte now) = t.poll hc start now := by
  simp [Transport.move, h]

/-- Settles O57: the poll's two cases, and in the second the two of the failed attempt. -/
theorem timeoutIsStrictAndFromStart : Obligations.TimeoutIsStrictAndFromStart := by
  intro hc t start now hphase
  rw [move_noByte hphase]
  refine ⟨fun hearly => if_neg (by omega), fun hlate hleft => ?again, fun hlate hspent => ?last⟩
  case again => rw [Transport.poll, if_pos (by omega), Transport.failAttempt, if_pos hleft]
  case last =>
    rw [Transport.poll, if_pos (by omega), Transport.failAttempt, if_neg (Nat.not_lt.mpr hspent)]

/-! What one move can do. -/

/-- What an event can make of a SendCommand: nothing but requests to the block, a new attempt, an end other than
TransmissionError, a failed attempt, or a failed write. -/
inductive Moved (hc : HostConfig) (t : Transport) (e : LinkEvent) : Transport → Prop where
  | kept (blk : State) : Moved hc t e { t with block := blk }
  | began (now : Nat) (hphase : t.phase = .starting) : Moved hc t e (t.beginAttempt now)
  | ended (blk : State) (x : SendEnd) (hx : x ≠ .transmissionError) :
      Moved hc t e { t with block := blk, phase := .ended x }
  | failed (blk : State) : Moved hc t e (Transport.failAttempt hc { t with block := blk })
  | writeFailed (hphase : t.phase = .starting) (he : e = .ioFailure) : Moved hc t e (t.failWrite hc)

/-- D34: an I/O failure ends the SendCommand or the attempt. -/
theorem failIo_cases (hc : HostConfig) (t : Transport) :
    t.failIo hc = { t with phase := .ended .ioError } ∨ t.failIo hc = t.failAttempt hc := by
  unfold Transport.failIo
  split
  · exact .inl rfl
  · exact .inr rfl

theorem finish_cases (t : Transport) :
    ∃ blk x, x ≠ .transmissionError ∧ t.finish = { t with block := blk, phase := .ended x } := by
  unfold Transport.finish
  rcases issue .sdResult t.block with ⟨blk, _ | r⟩
  · exact ⟨blk, .noResponse, by simp, rfl⟩
  · exact ⟨blk, .payload r.result, by simp, rfl⟩

/-- R233, R234, R235: what a byte's response leads to. -/
theorem moved_feedByte (hc : HostConfig) (b : Byte) (t : Transport) (e : LinkEvent) :
    Moved hc t e (t.feedByte hc b) := by
  unfold Transport.feedByte
  dsimp only
  split
  · exact .kept _
  split
  · exact .failed _
  split
  · obtain ⟨blk, x, hx, h⟩ := finish_cases { t with block := (issue (.sdRecv b) t.block).1 }
    exact h ▸ .ended blk x hx
  · exact .kept _

theorem move_moved (hc : HostConfig) (e : LinkEvent) (t : Transport) : Moved hc t e (t.move hc e) := by
  cases hphase : t.phase with
  | starting =>
    cases e <;> simp only [Transport.move, hphase]
    case written now => exact .began now hphase
    case ioFailure => exact .writeFailed hphase rfl
    case byte | noByte => exact .kept t.block
  | polling start =>
    cases e <;> simp only [Transport.move, hphase]
    case byte b => exact moved_feedByte hc b t _
    case noByte now =>
      unfold Transport.poll
      split
      · exact .failed t.block
      · exact .kept t.block
    case ioFailure =>
      obtain h | h := failIo_cases hc t <;> rw [h]
      · exact .ended t.block .ioError (by simp)
      · exact .failed t.block
    case written => exact .kept t.block
  | ended x =>
    rw [move_of_ended hphase]
    exact .kept t.block

/-! The wire: whole copies of the packet. -/

/-- The wire holds whole copies of the packet, no more than the attempts, and as many unless I/O failed. -/
def WireAccounted (es : List LinkEvent) (t : Transport) : Prop :=
  ∃ k, k ≤ t.attempts ∧ t.wire = (List.replicate k t.packet).flatten ∧
    (LinkEvent.ioFailure ∉ es → k = t.attempts)

section
variable {es es' : List LinkEvent} {t : Transport}

theorem WireAccounted.mono (h : WireAccounted es t) (hes : es ⊆ es') : WireAccounted es' t := by
  obtain ⟨k, hk, hwire, hclean⟩ := h
  exact ⟨k, hk, hwire, fun hne => hclean fun hmem => hne (hes hmem)⟩

/-- R232: a new attempt writes one copy more. -/
theorem WireAccounted.beginAttempt (h : WireAccounted es t) (now : Nat) :
    WireAccounted es (t.beginAttempt now) := by
  obtain ⟨k, hk, hwire, hclean⟩ := h
  refine ⟨k + 1, Nat.succ_le_succ hk, ?_, fun hne => congrArg (· + 1) (hclean hne)⟩
  simp [Transport.beginAttempt, hwire, List.replicate_succ']

/-- Log entry 14: an attempt whose write fails counts and puts nothing on the wire. -/
theorem WireAccounted.writeFailed (h : WireAccounted es t) (hmem : .ioFailure ∈ es) :
    WireAccounted es { t with attempts := t.attempts + 1 } := by
  obtain ⟨k, hk, hwire, -⟩ := h
  exact ⟨k, Nat.le_succ_of_le hk, hwire, fun hne => absurd hmem hne⟩

end

/-! The budget of attempts. -/

/-- R234 and the wire after the events `es`: the attempts are within the budget, one is begun only below it, and
TransmissionError comes with the whole of it. -/
structure Accounted (hc : HostConfig) (es : List LinkEvent) (t : Transport) : Prop where
  attempts_le : t.attempts ≤ hc.maxRetry
  lt_of_starting : t.phase = .starting → t.attempts < hc.maxRetry
  eq_of_transmissionError : t.phase = .ended .transmissionError → t.attempts = hc.maxRetry
  wire : WireAccounted es t

section
variable {hc : HostConfig} {es : List LinkEvent} {t : Transport}

theorem accounted_ended (hle : t.attempts ≤ hc.maxRetry) (hwire : WireAccounted es t) {x : SendEnd}
    (hx : x ≠ .transmissionError) : Accounted hc es { t with phase := .ended x } :=
  ⟨hle, nofun, fun h => absurd (Phase.ended.inj h) hx, hwire⟩

/-- A failed attempt starts a new one below the budget and ends with TransmissionError at it. -/
theorem accounted_failAttempt (hle : t.attempts ≤ hc.maxRetry) (hwire : WireAccounted es t) :
    Accounted hc es (t.failAttempt hc) := by
  unfold Transport.failAttempt
  by_cases hleft : t.attempts < hc.maxRetry
  · rw [if_pos hleft]
    exact ⟨hle, fun _ => hleft, nofun, hwire⟩
  · rw [if_neg hleft]
    exact ⟨hle, nofun, fun _ => Nat.le_antisymm hle (Nat.not_lt.mp hleft), hwire⟩

theorem accounted_failIo (hle : t.attempts ≤ hc.maxRetry) (hwire : WireAccounted es t) :
    Accounted hc es (t.failIo hc) := by
  obtain h | h := failIo_cases hc t <;> rw [h]
  · exact accounted_ended hle hwire (by simp)
  · exact accounted_failAttempt hle hwire

theorem Accounted.moved {t' : Transport} {e : LinkEvent} (h : Accounted hc es t) (hmoved : Moved hc t e t') :
    Accounted hc (es ++ [e]) t' := by
  have hwire : WireAccounted (es ++ [e]) t := h.wire.mono (List.subset_append_left es [e])
  cases hmoved with
  | kept blk => exact ⟨h.attempts_le, h.lt_of_starting, h.eq_of_transmissionError, hwire⟩
  | began now hphase => exact ⟨h.lt_of_starting hphase, nofun, nofun, hwire.beginAttempt now⟩
  | ended blk x hx => exact accounted_ended (t := { t with block := blk }) h.attempts_le hwire hx
  | failed blk => exact accounted_failAttempt (t := { t with block := blk }) h.attempts_le hwire
  | writeFailed hphase he =>
    exact accounted_failIo (h.lt_of_starting hphase) (hwire.writeFailed (by simp [he]))

theorem Accounted.moves (h : Accounted hc [] t) (es : List LinkEvent) : Accounted hc es (t.moves hc es) := by
  induction es using List.reverseRecOn with
  | nil => exact h
  | append_singleton es e ih =>
    rw [moves_append]
    exact ih.moved (move_moved hc e _)

end

/-- R231: before the first move no attempt is made and nothing written. -/
theorem accounted_sendCommand (hc : HostConfig) (payload : List Byte) (block : State) :
    Accounted hc [] (sendCommand hc payload block) := by
  have hwire (blk : State) (packet : List Byte) (phase : Phase) :
      WireAccounted [] { block := blk, packet, attempts := 0, wire := [], phase } :=
    ⟨0, le_rfl, rfl, fun _ => rfl⟩
  unfold sendCommand
  split
  split
  · exact accounted_ended (Nat.zero_le _) (hwire ..) (by simp)
  split
  · exact accounted_failAttempt (Nat.zero_le _) (hwire ..)
  · exact accounted_ended (Nat.zero_le _) (hwire ..) (by simp)

/-- Settles O54: the account holds at the start and every move keeps it. -/
theorem sendCommandAttemptBudget : Obligations.SendCommandAttemptBudget := by
  rintro hc payload block es t rfl
  have h := (accounted_sendCommand hc payload block).moves es
  exact ⟨h.attempts_le, h.wire, h.eq_of_transmissionError⟩

/-! A payload above `MAX_PAYLOAD`. -/

theorem issue_encode_of_lt {s : State} {p : List Byte}
    (hfits : bulkFits s.config.maxBulkInput p.length = true) (h : s.config.maxPayload.val < p.length) :
    issue (.encode p) s =
      (s.respond .lengthError none [], some { status := .lengthError, state := none, result := [] }) :=
  issue_of_response (exec_encode_of_lt hfits h) rfl

/-- Settles O55: ENCODE's LengthError ends the SendCommand before the first move. -/
theorem oversizeSendMakesNoAttempt : Obligations.OversizeSendMakesNoAttempt := by
  intro hc payload block es hfits hlong
  have hsend : sendCommand hc payload block =
      { block := block.respond .lengthError none [], packet := [], attempts := 0, wire := [],
        phase := .ended .lengthError } := by
    simp [sendCommand, issue_encode_of_lt hfits hlong]
  have hended : (sendCommand hc payload block).phase = .ended .lengthError := by rw [hsend]
  rw [moves_of_ended hended, hsend]
  exact ⟨rfl, rfl, rfl⟩

/-! An attempt that receives a well-formed response. -/

/-- R233: a byte the decoder takes without reaching `PAYLOAD_READY`. -/
theorem feedByte_of_ok {hc : HostConfig} {b : Byte} {t : Transport} {d : StreamDecoder}
    (h : recvByte t.block.config b t.block.sd = .done .ok d) (hd : d.state ≠ .payloadReady) :
    t.feedByte hc b = { t with block := t.block.fed d [d.state] } := by
  simp [Transport.feedByte, issue_of_response (exec_sdRecv_of_ok h) rfl, hd]

theorem feedByte_of_ready {hc : HostConfig} {b : Byte} {t : Transport} {d : StreamDecoder}
    (h : recvByte t.block.config b t.block.sd = .done .ok d) (hd : d.state = .payloadReady) :
    t.feedByte hc b = Transport.finish { t with block := t.block.fed d [d.state] } := by
  simp [Transport.feedByte, issue_of_response (exec_sdRecv_of_ok h) rfl, hd]

/-- R235: with the payload ready the host reads it and ends. -/
theorem finish_of_ready {t : Transport} (h : t.block.sd.state = .payloadReady) :
    t.finish = { t with
      block := t.block.respond .ok (some .payloadReady) t.block.sd.payload
      phase := .ended (.payload t.block.sd.payload) } := by
  simp [Transport.finish, issue_of_response (exec_sdResult_of_ready h) rfl]

theorem move_byte {hc : HostConfig} {t : Transport} {start : Nat} (h : t.phase = .polling start) (b : Byte) :
    t.move hc (.byte b) = t.feedByte hc b := by
  simp [Transport.move, h]

/-- The bytes before the last one only feed the block. -/
theorem moves_of_accepts {hc : HostConfig} {cfg : Config} {d d' : StreamDecoder} {bs : List Byte}
    {tags : List StateTag} (h : Accepts cfg d bs tags d') (htags : ∀ g ∈ tags, g ≠ .payloadReady)
    {t : Transport} {start : Nat} (hphase : t.phase = .polling start) (hcfg : t.block.config = cfg)
    (hd : t.block.sd = d) :
    t.moves hc (bs.map LinkEvent.byte) = { t with block := t.block.fed d' tags } := by
  induction h generalizing t with
  | nil d =>
    subst hd
    rw [State.fed_nil]
    rfl
  | @cons d d₁ d' b bs tags hfirst hrest ih =>
    subst hcfg hd
    obtain ⟨hnotReady, hlater⟩ := List.forall_mem_cons.mp htags
    have hmove := (move_byte hphase b).trans (feedByte_of_ok (hc := hc) hfirst hnotReady)
    have hrun := ih hlater (t := { t with block := t.block.fed d₁ [d₁.state] }) hphase rfl rfl
    rw [List.map_cons, moves_cons, hmove, hrun]
    exact congrArg (fun blk => { t with block := blk }) (State.fed_fed t.block d₁ d' [d₁.state] tags)

/-- R232: the write of an attempt leaves a fresh decoder and polls. -/
theorem move_written {hc : HostConfig} {t : Transport} (h : t.phase = .starting) (now : Nat) :
    t.move hc (.written now) = { t with
      block := t.block.renewed, attempts := t.attempts + 1, wire := t.wire ++ t.packet
      phase := .polling now } := by
  simp [Transport.move, h, Transport.beginAttempt, issue_of_response (exec_sdNew t.block) rfl]

/-- R233, R235: a frame, byte by byte, to a decoder that waits for a header. -/
theorem moves_frame_of_polling {hc : HostConfig} {t : Transport} {start : Nat} {q : List Byte}
    (hphase : t.phase = .polling start) (hd : t.block.sd.state = .waitForHeader) (hcount : t.block.sd.count = 0)
    (hbuf : t.block.sd.buf.length = t.block.config.maxPayload.val) (hpos : 1 ≤ q.length)
    (hmax : q.length ≤ t.block.config.maxPayload.val) :
    ∃ blk, t.moves hc ((frame q).map LinkEvent.byte) =
      { t with block := blk, phase := .ended (.payload q) } := by
  obtain ⟨tags, d, hbody, hcrc, rfl, htags⟩ := accepts_upTo_crc hd hcount hbuf hpos hmax
  have hframe : frame d.payload = header :: BitVec.ofNat 8 d.payload.length :: d.payload ++
      [checksum d.payload] := rfl
  have hlast : recvByte (t.block.fed d tags).config (checksum d.payload) (t.block.fed d tags).sd =
      .done .ok { d with state := .payloadReady } := recvByte_crc_of_eq hcrc rfl
  have hmove := move_byte (hc := hc) (t := { t with block := t.block.fed d tags }) hphase (checksum d.payload)
  have hready := feedByte_of_ready (hc := hc) (t := { t with block := t.block.fed d tags }) hlast rfl
  rw [hframe, List.map_append, moves_append, moves_of_accepts hbody htags hphase rfl rfl]
  exact ⟨_, hmove.trans (hready.trans (finish_of_ready rfl))⟩

/-- One attempt from its start to the last byte of a frame. -/
theorem moves_of_frame {hc : HostConfig} {t : Transport} {q : List Byte} (now : Nat)
    (hphase : t.phase = .starting) (hpos : 1 ≤ q.length) (hmax : q.length ≤ t.block.config.maxPayload.val) :
    ∃ blk, t.moves hc (.written now :: (frame q).map LinkEvent.byte) =
      { t with
        block := blk, attempts := t.attempts + 1, wire := t.wire ++ t.packet
        phase := .ended (.payload q) } := by
  rw [moves_cons, move_written hphase]
  exact moves_frame_of_polling rfl rfl rfl (freeBuf_length ..) hpos hmax

/-- Settles O56: the attempt ends with the payload, and what has ended stays. -/
theorem attemptReturnsResponsePayload : Obligations.AttemptReturnsResponsePayload := by
  intro hc t q now later hphase hpos hmax es
  obtain ⟨blk, hrun⟩ := moves_of_frame (hc := hc) now hphase hpos hmax
  change t.moves hc es = _ at hrun
  rw [moves_append hc es later, hrun]
  exact ⟨rfl, rfl, rfl, moves_of_ended rfl later⟩

end Sys2Proof.Machine
end

section
/-!
PROOFS. Move (spec/60_exceptions.md R236 to R238): the 25 bytes of its payload, and the one ENCODE and the one
write it makes of them.
-/

namespace Sys2Proof.Machine

/-! The payload. -/

/-- R236: the four bytes of a field, read little-endian. -/
theorem le32_readback (v : BitVec 32) :
    v.extractLsb' 24 8 ++ v.extractLsb' 16 8 ++ v.extractLsb' 8 8 ++ v.extractLsb' 0 8 = v := by
  rw [BitVec.extractLsb'_append_extractLsb'_eq_extractLsb' (by rfl),
    BitVec.extractLsb'_append_extractLsb'_eq_extractLsb' (by rfl),
    BitVec.extractLsb'_append_extractLsb'_eq_extractLsb' (by rfl)]
  exact BitVec.extractLsb'_eq_self

theorem qepPayload_length (op : Byte) (pos : Vector (BitVec 32) 5) (rate : BitVec 32) :
    (qepPayload op pos rate).length = 25 := rfl

/-- Settles O58: each field is the four bytes at its place. -/
theorem movePayloadLayout : Obligations.MovePayloadLayout := by
  intro op pos rate
  refine ⟨qepPayload_length .., rfl, fun k => ?position, _, _, _, _, rfl, le32_readback rate⟩
  case position =>
    fin_cases k
    · exact ⟨_, _, _, _, rfl, le32_readback pos[0]⟩
    · exact ⟨_, _, _, _, rfl, le32_readback pos[1]⟩
    · exact ⟨_, _, _, _, rfl, le32_readback pos[2]⟩
    · exact ⟨_, _, _, _, rfl, le32_readback pos[3]⟩
    · exact ⟨_, _, _, _, rfl, le32_readback pos[4]⟩

/-! The write. -/

section
variable {hc : HostConfig} {pos : Vector (BitVec 32) 5} {rate : BitVec 32} {stream : WriteOutcome}
  {block : State} (hbound : block.config.maxBulkInput = none)
include hbound

/-- R237: with room for the payload, Move writes its frame once. -/
theorem moveCommand_of_le (h : 25 ≤ block.config.maxPayload.val) :
    moveCommand hc pos rate stream block =
      writeOnce (frame (qepPayload hc.qepOpcode pos rate))
        (block.respond .ok none (frame (qepPayload hc.qepOpcode pos rate))) stream := by
  have hencode := exec_encode_of_le (p := qepPayload hc.qepOpcode pos rate) (by rw [hbound]; rfl) h
  simp [moveCommand, issue_of_response hencode rfl]

/-- Log entry 17: without room for it, Move surfaces LengthError and writes nothing. -/
theorem moveCommand_of_lt (h : block.config.maxPayload.val < 25) :
    moveCommand hc pos rate stream block =
      { block := block.respond .lengthError none [], packet := [], wire := [], ending := .lengthError } := by
  have hencode := issue_encode_of_lt (p := qepPayload hc.qepOpcode pos rate) (by rw [hbound]; rfl) h
  simp [moveCommand, hencode]

end

/-- Settles O59: what is on the wire is the payload's frame, which DECODE takes. -/
theorem moveWritesDecodablePacket : Obligations.MoveWritesDecodablePacket := by
  intro hc pos rate block hbound hroom
  rw [moveCommand_of_le hbound hroom]
  refine ⟨rfl, rfl, fun u hu => ?_⟩
  have hdecode := decodePacket_frame (q := qepPayload hc.qepOpcode pos rate) (by simp [qepPayload_length])
    (by simp [qepPayload_length])
  exact exec_decode_accepted (by rw [hu]; rfl) hdecode

/-- Settles O60: the three outcomes of the one write. -/
theorem moveReportsOnlyStreamFailures : Obligations.MoveReportsOnlyStreamFailures := by
  intro hc pos rate stream block hbound
  refine ⟨fun hroom => ?room, fun hsmall => ?small⟩
  case room =>
    rw [moveCommand_of_le hbound hroom]
    cases stream <;> simp [writeOnce, qepPayload_length, State.respond]
  case small =>
    rw [moveCommand_of_lt hbound hsmall]
    exact ⟨rfl, rfl⟩

end Sys2Proof.Machine
end
